-- ==== Sys2Proof/Word.lean ====
section
/-! DEFINITION. The word type of the block and the names of its 16 input lines (spec/00_scope.md R6, R7, R10). -/

namespace Sys2Proof

/-- A byte is 8 bits, bit 0 the least significant, unsigned (R10). No datum of the block is wider (R52). -/
abbrev Byte := BitVec 8

/-- The two 8-bit groups of input lines, G0 ("first group") and G1 ("second group") (R6, R14). -/
inductive PinGroup where
  | g0
  | g1
  deriving DecidableEq, Repr

/-- One input line `Gg.b`: its group g and its bit b in 0..7 (R7). -/
structure Line where
  group : PinGroup
  bit : Fin 8
  deriving DecidableEq, Repr

/-- REPORT_SIZE = 4, the "report byte size" constant of the interface (R6, R8, R70). -/
def reportSize : Nat := 4

end Sys2Proof
end

