-- ==== Sys2Proof/Syntax.lean ====
section
/-! DEFINITION. The four commands (R2, R72), the fields of a command word (R71), the assembler lines of R79, and the
line-map table of R7. -/

namespace Sys2Proof

/-- A command of the block: one constructor per row of the opcode table (R72, R76). -/
inductive Instr where
  /-- INIT, the source's `init()` (R105). -/
  | init
  /-- UPDATE, the source's `update()` (R108). -/
  | update
  /-- HASCHG, the source's `hasChanged() -> bool` (R160). -/
  | haschg
  /-- BUILD, the source's `buildReport(buffer)` (R165). `present` is the B field: a buffer is present at the address the
  BUF_ADDR port shows with the command (R73). -/
  | build (present : Bool)
  deriving DecidableEq, Repr

/-- The three fields of the command word CMD[7:0] (R71), before any check. -/
structure CmdFields where
  /-- RES = CMD[7:3], reserved, must be 0. -/
  res : BitVec 5
  /-- B = CMD[2], buffer present. -/
  b : Bool
  /-- OP = CMD[1:0], the operation. -/
  op : BitVec 2
  deriving DecidableEq, Repr

/-- A line of assembler text, after R79's comment and environment annotation are taken off. -/
inductive AsmLine where
  | init
  | update
  | haschg
  /-- `BUILD`: no buffer. -/
  | build
  /-- `BUILD @a`: the buffer is present and `a` is BUF_ADDR. -/
  | buildAt (a : Nat)
  deriving DecidableEq, Repr

/-- The line-map table of R7, as raw data: the bits of G0 that carry DOWN, LEFT and RIGHT, the two G0 bits of BTN_G0 (a
two-element set, its smaller bit first), and BTN_MAP, whose entry i is the line of button Bi. LINE_UP is no parameter. -/
structure LineTable where
  down : Fin 8
  left : Fin 8
  right : Fin 8
  btnG0Low : Fin 8
  btnG0High : Fin 8
  btnMap : Vector Line 8
  deriving DecidableEq, Repr

/-- LINE_UP = G0.5, fixed by the §8 scenario (R7, spec/90_conflicts.md C1). -/
def lineUpBit : Fin 8 := 5

end Sys2Proof
end

