-- ==== Sys2Proof/WellFormed.lean ====
section
/-! DEFINITION. The checks on raw data: on the fields of a command word (R71, R73, R76), on an instruction, and on a
line-map table (the constraints of R7). -/

namespace Sys2Proof

/-- RES must be 0 (R71). -/
def CmdFields.reservedZero (f : CmdFields) : Bool := f.res == 0

/-- B may be 1 only with OP = 11, BUILD (R73). -/
def CmdFields.bufferOnlyWithBuild (f : CmdFields) : Bool := !f.b || f.op == 0b11

/-- The fields spell one of the five legal words (R76). -/
def CmdFields.wellFormed (f : CmdFields) : Bool := f.reservedZero && f.bufferOnlyWithBuild

/-- Every instruction is well formed. The constructors of `Instr` carry exactly the operands R76 allows (B with BUILD
alone), so an illegal combination can be written only as `CmdFields`, where `CmdFields.wellFormed` refuses it. -/
def Instr.wellFormed : Instr → Bool
  | .init => true
  | .update => true
  | .haschg => true
  | .build _ => true

/-- The four direction lines and the two lines of BTN_G0 are six distinct lines of G0 (R7). -/
def LineTable.sixDistinct (t : LineTable) : Bool :=
  decide [lineUpBit, t.down, t.left, t.right, t.btnG0Low, t.btnG0High].Nodup

/-- BTN_G0 is written smaller bit first, so that equal sets are equal data. -/
def LineTable.setOrdered (t : LineTable) : Bool := decide (t.btnG0Low < t.btnG0High)

/-- The ten button lines are BTN_G0 and all of G1 (R7). -/
def LineTable.isButtonLine (t : LineTable) (l : Line) : Bool :=
  match l.group with
  | .g0 => l.bit == t.btnG0Low || l.bit == t.btnG0High
  | .g1 => true

/-- BTN_MAP sends every button to a button line (R7). -/
def LineTable.mapsToButtonLines (t : LineTable) : Bool := t.btnMap.toList.all t.isButtonLine

/-- BTN_MAP is injective (R7), so its image has 8 of the 10 button lines. -/
def LineTable.mapInjective (t : LineTable) : Bool := decide t.btnMap.toList.Nodup

/-- All the constraints R7 puts on the line-map parameters. -/
def LineTable.wellFormed (t : LineTable) : Bool :=
  t.sixDistinct && t.setOrdered && t.mapsToButtonLines && t.mapInjective

end Sys2Proof
end

