-- ==== Sys2Proof/Decode.lean ====
section
/-! DEFINITION. The command word (R71 to R78): its fields, the decoder, total on every 8-bit word and rejecting by name, the
encoder, and the assembler of R79. -/

namespace Sys2Proof

/-- Why a word spells no command (R76). Each raises RESERVED_CMD (R78). -/
inductive DecodeError where
  /-- RES = w[7:3] is not 0. -/
  | reservedBits
  /-- B = w[2] is 1 and OP = w[1:0] is not 11. -/
  | bufferWithoutBuild
  deriving DecidableEq, Repr

/-- The fields of a command word (R71). -/
def fieldsOfWord (w : Byte) : CmdFields where
  res := w.extractLsb' 3 5
  b := w.getLsbD 2
  op := w.extractLsb' 0 2

/-- The command word of three fields (R71). -/
def wordOfFields (f : CmdFields) : Byte := f.res ++ BitVec.ofBool f.b ++ f.op

/-- The operation OP selects (R72), B being read for BUILD alone (R73). -/
def instrOfOp (op : BitVec 2) (b : Bool) : Instr :=
  match op with
  | 0b00#2 => .init
  | 0b01#2 => .update
  | 0b10#2 => .haschg
  | 0b11#2 => .build b

/-- Decode (R78), its checks in R78's order. -/
def decode (w : Byte) : Except DecodeError Instr :=
  if (fieldsOfWord w).reservedZero then
    if (fieldsOfWord w).bufferOnlyWithBuild then .ok (instrOfOp (fieldsOfWord w).op (fieldsOfWord w).b)
    else .error .bufferWithoutBuild
  else .error .reservedBits

/-- The fields of an instruction's word: OP from R72, B from R73, RES = 0 (R71). -/
def fieldsOfInstr : Instr → CmdFields
  | .init => ⟨0, false, 0b00⟩
  | .update => ⟨0, false, 0b01⟩
  | .haschg => ⟨0, false, 0b10⟩
  | .build present => ⟨0, present, 0b11⟩

/-- The word of an instruction (R71, R72, R73). -/
def encode (i : Instr) : Byte := wordOfFields (fieldsOfInstr i)

/-- The instruction a line of assembler stands for (R79). -/
def instrOfAsm : AsmLine → Instr
  | .init => .init
  | .update => .update
  | .haschg => .haschg
  | .build => .build false
  | .buildAt _ => .build true

/-- Assemble a line (R79): its command word, and the BUF_ADDR presented with it where there is one. -/
def assemble (l : AsmLine) : Byte × Option Nat :=
  (encode (instrOfAsm l), match l with | .buildAt a => some a | _ => none)

/-- The command port's word, from the `nbits` low bits of `w`: every command is exactly one 8-bit word (R71, R77). -/
def cmdOfBits (nbits w : Nat) : Byte := BitVec.ofNat 8 (w % 2 ^ nbits)

/-- The instruction the decoder reads from an instruction whose bits are `w`, bit 0 its least significant. -/
def decodeTableWord (nbits w : Nat) : Option Instr := (decode (cmdOfBits nbits w)).toOption

end Sys2Proof
end

