-- ==== Sys2Proof/Config.lean ====
section
/-! DEFINITION. The build-time parameters that the spec leaves OPEN: the line map (R7, D5), the host's address width ADDR_W
(R9, D14) and the descriptor length DESC_LEN (R8, D23). -/

namespace Sys2Proof

/-- The reference instance PREF of D6. It is used by the tests and to show that a legal line map exists; nothing of the
machine is computed from it. -/
def LineTable.reference : LineTable where
  down := 4
  left := 6
  right := 7
  btnG0Low := 0
  btnG0High := 1
  btnMap := #v[⟨.g1, 0⟩, ⟨.g1, 1⟩, ⟨.g1, 2⟩, ⟨.g1, 3⟩, ⟨.g1, 4⟩, ⟨.g1, 5⟩, ⟨.g1, 6⟩, ⟨.g1, 7⟩]

/-- A line map: a table that meets the constraints of R7, so that an illegal one cannot be built and a statement about every
line map is about every legal one. The default of `table` only makes the type inhabited, as `Config.params` needs. -/
structure LineMap where
  table : LineTable := LineTable.reference
  legal : table.wellFormed = true := by decide
  deriving DecidableEq, Repr, Inhabited

/-- The OPEN parameters a model takes as arguments (R7, R8, R9). They are fixed at build time and are not block state (R32). -/
structure Params where
  /-- LINE_DOWN, LINE_LEFT, LINE_RIGHT, BTN_G0 and BTN_MAP (R7). -/
  lineMap : LineMap
  /-- ADDR_W, the width of the buffer address the host hands to BUILD (R9). -/
  addrW : Nat
  /-- DESC_LEN, the report-descriptor byte length (R8). No rule reads it. -/
  descLen : Nat
  deriving DecidableEq, Repr, Inhabited

/-- The parameters of the machine that is reset. No value: nothing can be proved of them but what their type says
(notes/assumptions/1.md). -/
opaque Config.params : Params

end Sys2Proof
end

