-- ==== Sys2Proof/Machine/State.lean ====
section
/-! DEFINITION. The state of the block and of the environment it touches (spec/10_state.md), as plain data, the reasons a
step stops, and the state right after reset (R34, R230). -/

namespace Sys2Proof.Machine

/-- The fault codes held in FAULT (R200). -/
inductive FaultCode where
  /-- 0, NONE: no fault. -/
  | noFault
  /-- 1, NOT_INIT: a command other than INIT while INIT_DONE = 0. -/
  | notInit
  /-- 2, BAD_BUFFER: BUILD with a present buffer that is not writable or wraps. -/
  | badBuffer
  /-- 3, RESERVED_CMD: an illegal command word. -/
  | reservedCmd
  deriving DecidableEq, Repr

/-- A 4-byte snapshot in the layout of R21, the layout of CUR, DLV and the report. -/
structure Snapshot where
  /-- Byte 0, x_axis: 0 left, 128 centered, 255 right. -/
  x : Byte
  /-- Byte 1, y_axis: 0 up, 128 centered, 255 down. -/
  y : Byte
  /-- Byte 2, BTN_LO ("buttons_0_7"): bit i is button Bi, i = 0..5. -/
  btnLo : Byte
  /-- Byte 3, BTN_HI ("buttons_8_15"): bit 0 is B6, bit 1 is B7. -/
  btnHi : Byte
  deriving DecidableEq, Repr

/-- The direction of a line (R26). -/
inductive Direction where
  | input
  | output
  deriving DecidableEq, Repr

/-- The setting of one line: its direction and its pull-up (R26). -/
structure LineConfig where
  direction : Direction
  pullUp : Bool
  deriving DecidableEq, Repr

/-- CFG: the setting of each of the 16 lines G0.0..G1.7 (R26). -/
structure LineConfigs where
  g0 : Vector LineConfig 8
  g1 : Vector LineConfig 8
  deriving DecidableEq, Repr

/-- Host memory as far as BUILD has written it: (address, byte) pairs, addresses strictly rising. An unlisted address has no
value here: its byte is the host's, and the block never reads memory (R50, R57; notes/assumptions/6.md). -/
abbrev Memory := List Host.Cell

/-- One host request: what the host and the environment show on the block's input ports (R70) for one command. A request is
free data: any levels, any word, any address (R103, R206, R237; notes/assumptions/2.md). -/
structure Request where
  /-- CMD, the command word. -/
  cmd : Byte
  /-- BUF_ADDR. The port has ADDR_W wires; `Operands.lean` takes the number modulo 2^ADDR_W. -/
  bufAddr : Nat
  /-- MEM_OK, host memory's answer to `MemWritable(BUF, 4)`. -/
  memOk : Bool
  /-- PIN0, the levels of G0 at the instant of the command's first group read. -/
  pin0 : Byte
  /-- PIN1, the levels of G1 at the instant of the command's second group read. -/
  pin1 : Byte
  /-- IE as the host has it when the command starts. -/
  ie : Bool
  deriving DecidableEq, Repr

/-- The machine: the block's registers, the environment state it touches, its ports, its build-time parameters, and the
requests still to come. -/
structure State where
  /-- CUR, the current snapshot (R20). -/
  cur : Snapshot
  /-- DLV, the delivered snapshot (R22). -/
  dlv : Snapshot
  /-- FIRST, the first-report flag (R23). -/
  first : Bool
  /-- INIT_DONE (R24). -/
  initDone : Bool
  /-- FAULT, the 2-bit fault code register (R25). -/
  fault : FaultCode
  /-- CFG, the line configuration (R26), which the CFG port shows (R70). -/
  cfg : LineConfigs
  /-- IE, the host's interrupt-enable bit (R33). -/
  ie : Bool
  /-- Host memory (R33, R50), written through the MEM_W port (R70). -/
  mem : Memory
  /-- CMD, input port (R70). -/
  cmd : Byte
  /-- BUF_ADDR, input port (R70). -/
  bufAddr : Nat
  /-- MEM_OK, input port (R70). -/
  memOk : Bool
  /-- P0, the levels of G0 on the PIN0 port (R33, R70). -/
  pin0 : Byte
  /-- P1, the levels of G1 on the PIN1 port (R33, R70). -/
  pin1 : Byte
  /-- RESULT, output port (R70, R74): what the last command drove on it, `none` where it drove nothing. No command reads it. -/
  result : Option Bool
  /-- The OPEN build-time parameters (R7, R8, R9). Not block state (R32): they stand here so that a statement about every
  state is a statement about every parameter; no command writes them. -/
  params : Params
  /-- The model's own field: the requests the host has still to issue, the next one first. -/
  pending : List Request
  deriving DecidableEq, Repr

/-- Why the machine stops. -/
inductive Fault where
  /-- FAULT holds `code`, so "the block takes no further step" (R204, R205). Raised by the precheck of every command and by
  an idle step. Safe: the spec gives the stopped block no step. -/
  | stopped (code : FaultCode)
  deriving DecidableEq, Repr

/-- Why an instruction has no meaning. -/
inductive Refusal where
  /-- An instruction of the table that this model gives no meaning. Raised by no arm of `exec` here. Safe: no next state is
  claimed. -/
  | notModelled (mnemonic : String)
  deriving DecidableEq, Repr

/-- The value CUR and DLV have at reset in this model. The spec leaves them unspecified (R34): DESIGN CHOICE, notes/assumptions/3.md. -/
def Snapshot.atReset : Snapshot := ⟨0, 0, 0, 0⟩

/-- The value CFG has at reset in this model: inputs without pull-ups. The spec leaves it unspecified (R34): DESIGN CHOICE,
notes/assumptions/4.md. -/
def LineConfigs.atReset : LineConfigs :=
  ⟨Vector.replicate 8 ⟨.input, false⟩, Vector.replicate 8 ⟨.input, false⟩⟩

/-- The machine right after power-on reset (R34, R230): INIT_DONE = 0 and FAULT = 0 as the spec says. No request is pending:
the block waits for the host's first command. Every other value is a DESIGN CHOICE named in notes/assumptions: CUR, DLV and
FIRST in 3.md, CFG in 4.md, the ports and IE in 5.md, the memory in 6.md; the parameters are OPEN (1.md). -/
def State.reset : State where
  cur := Snapshot.atReset
  dlv := Snapshot.atReset
  first := false
  initDone := false
  fault := .noFault
  cfg := LineConfigs.atReset
  ie := true
  mem := []
  cmd := 0x00
  bufAddr := 0
  memOk := false
  pin0 := 0xFF
  pin1 := 0xFF
  result := none
  params := Config.params
  pending := []

end Sys2Proof.Machine
end

