-- ==== Sys2Proof/Machine/Ops.lean ====
section
/-! DEFINITION. The named operations of R12 over registers, ports and host memory, raising a fault (R205), the precheck
(R204), and the presentation of a request on the input ports. -/

namespace Sys2Proof.Machine

/-! ### Register and port updates (R12) -/

/-- `CUR <- v`, all four bytes (R20). -/
def State.setCur (s : State) (v : Snapshot) : State := { s with cur := v }

/-- `DLV <- v`, all four bytes (R22). -/
def State.setDlv (s : State) (v : Snapshot) : State := { s with dlv := v }

/-- `FIRST <- b` (R23). -/
def State.setFirst (s : State) (b : Bool) : State := { s with first := b }

/-- `INIT_DONE <- b` (R24). -/
def State.setInitDone (s : State) (b : Bool) : State := { s with initDone := b }

/-- `FAULT <- c` (R25). -/
def State.setFault (s : State) (c : FaultCode) : State := { s with fault := c }

/-- `CFG <- c` (R26). -/
def State.setCfg (s : State) (c : LineConfigs) : State := { s with cfg := c }

/-- `IE <- b` (R33). -/
def State.setIe (s : State) (b : Bool) : State := { s with ie := b }

/-- Host memory becomes `m` (R50). -/
def State.setMem (s : State) (m : Memory) : State := { s with mem := m }

/-- What the command drives on RESULT: `some b` for `result <- b`, `none` where it drives nothing (R74). -/
def State.driveResult (s : State) (r : Option Bool) : State := { s with result := r }

/-! ### Bytes of a snapshot -/

/-- Byte k of a snapshot, k = 0..3 (R11, R21). -/
def Snapshot.byte (v : Snapshot) : Fin 4 → Byte
  | 0 => v.x
  | 1 => v.y
  | 2 => v.btnLo
  | 3 => v.btnHi

/-- `v[i] <- b`: bit i of a byte is set to b (R10, R130). -/
def setBit (v : Byte) (i : Nat) (b : Bool) : Byte :=
  if b then v ||| (1#8 <<< i) else v &&& ~~~(1#8 <<< i)

/-! ### Host memory (R50, R52) -/

/-- The byte the model knows at an address: `none` where BUILD has written nothing. -/
def Memory.read (a : Nat) : Memory → Option Byte
  | [] => none
  | (b, v) :: rest => if a = b then some v else Memory.read a rest

/-- `MemWrite(a, 1, v)` (R12), keeping the addresses strictly rising. -/
def Memory.write (a : Nat) (v : Byte) : Memory → Memory
  | [] => [(a, v)]
  | (b, w) :: rest =>
    if a < b then (a, v) :: (b, w) :: rest
    else if a = b then (a, v) :: rest
    else (b, w) :: Memory.write a v rest

/-- The canonical form: addresses strictly rising. An unlisted address reads as no value, so no entry can equal it. -/
abbrev Memory.wf (m : Memory) : Prop := m.Pairwise fun c d => c.1 < d.1

/-- BUILD's four byte writes, in ascending address order, byte 0 first (R52, R55, R165). -/
def Memory.writeReport (m : Memory) (buf : Nat) (v : Snapshot) : Memory :=
  [0, 1, 2, 3].foldl (fun (m : Memory) (k : Fin 4) => m.write (buf + k.val) (v.byte k)) m

/-! ### The pins (R12, R55, R57) -/

/-- `PinRead(g)`: the 8 levels of a group, 1 for a high line. It changes nothing and cannot fail (R57). -/
def pinRead (s : State) : PinGroup → Byte
  | .g0 => s.pin0
  | .g1 => s.pin1

/-- Every line of G0 and G1 an input with its pull-up enabled (R26). -/
def allInputsPulledUp : LineConfigs :=
  ⟨Vector.replicate 8 ⟨.input, true⟩, Vector.replicate 8 ⟨.input, true⟩⟩

/-! ### Faults and the precheck (R200 to R205) -/

/-- The 2-bit value of a fault code in FAULT (R200). -/
def FaultCode.code : FaultCode → BitVec 2
  | .noFault => 0
  | .notInit => 1
  | .badBuffer => 2
  | .reservedCmd => 3

/-- `raise Fault(c)` (R205): FAULT is set to the code, nothing else is written, and no RESULT is driven. There is no vector,
no saved state and no return from a fault: the block is stopped from here on. -/
def raiseFault (c : FaultCode) (s : State) : Host.Outcome State Fault Refusal :=
  .next ((s.setFault c).driveResult none)

/-- The first check of the precheck (R204): while FAULT is not 0 there is no step (R205). -/
def whileRunning (s : State) (body : Host.Outcome State Fault Refusal) : Host.Outcome State Fault Refusal :=
  if s.fault = .noFault then body else .fault (.stopped s.fault)

/-- The precheck of a command other than INIT (R204): a stopped block takes no step, and INIT_DONE = 0 raises NOT_INIT. -/
def afterInit (s : State) (body : Host.Outcome State Fault Refusal) : Host.Outcome State Fault Refusal :=
  whileRunning s (if s.initDone then body else raiseFault .notInit s)

/-- `execute(illegal)` behind the precheck (R78, R204): a stopped block takes no step, and any other raises RESERVED_CMD,
before INIT_DONE is looked at. -/
def execIllegal (s : State) : Host.Outcome State Fault Refusal :=
  whileRunning s (raiseFault .reservedCmd s)

/-! ### The host interface (R70, R206) -/

/-- The host issues its next request: the input ports show it, and `rest` is what is still to come. -/
def State.present (s : State) (r : Request) (rest : List Request) : State :=
  { s with
    cmd := r.cmd, bufAddr := r.bufAddr, memOk := r.memOk, pin0 := r.pin0, pin1 := r.pin1, ie := r.ie, pending := rest }

/-- The request that shows on the ports what they show now, but for the command word. -/
def State.requestOf (s : State) (w : Byte) : Request where
  cmd := w
  bufAddr := s.bufAddr
  memOk := s.memOk
  pin0 := s.pin0
  pin1 := s.pin1
  ie := s.ie

/-- The block waits for the host's next command (R230): with no request pending nothing changes, and a stopped block stays
stopped (R205). -/
def idle (s : State) : Host.Outcome State Fault Refusal := whileRunning s (.next s)

end Sys2Proof.Machine
end

