-- ==== Sys2Proof/Machine/Flags.lean ====
section
/-! DEFINITION. FIRST, the only flag of the block (R28), and the comparison behind HASCHG's result (R160, R161). -/

namespace Sys2Proof.Machine

/-- The byte-exact comparison of two snapshots over all four bytes (R11, R161). -/
def sameBytes (u v : Snapshot) : Bool :=
  u.byte 0 == v.byte 0 && u.byte 1 == v.byte 1 && u.byte 2 == v.byte 2 && u.byte 3 == v.byte 3

/-- HASCHG's result (R160): 1 while FIRST = 1, and otherwise 1 exactly when CUR and DLV differ. -/
def changed (s : State) : Bool := if s.first then true else if sameBytes s.cur s.dlv then false else true

end Sys2Proof.Machine
end

