-- ==== Sys2Proof/Machine/Operands.lean ====
section
/-! DEFINITION. The one operand of the command set: the buffer of BUILD, its address (R73, R75) and its check (R54, R58). -/

namespace Sys2Proof.Machine

/-- BUF: the value on the BUF_ADDR port, an unsigned ADDR_W-bit byte address, "with no extension, scaling or offset" (R75). -/
def bufOperand (s : State) : Nat := s.bufAddr % 2 ^ s.params.addrW

/-- BUF..BUF+3 does not wrap past address 2^ADDR_W - 1 (R54). No alignment is asked. -/
def rangeFits (addrW buf : Nat) : Bool := decide (buf + reportSize ≤ 2 ^ addrW)

/-- `MemWritable(BUF, 4)` (R12, R54, R58): host memory admits the write (the MEM_OK port) and the range does not wrap. -/
def bufferOk (s : State) : Bool := s.memOk && rangeFits s.params.addrW (bufOperand s)

end Sys2Proof.Machine
end

