-- ==== Sys2Proof/Machine/ChangeDetector.lean ====
section
/-! DEFINITION. The state-change detector (spec/42_change_detector.md): HASCHG and BUILD, and the host's view of the report. -/

namespace Sys2Proof.Machine

/-- HASCHG (R160): RESULT is driven, and nothing else is written. -/
def execHaschg (s : State) : Host.Outcome State Fault Refusal :=
  afterInit s (.next (s.driveResult (some (changed s))))

/-- The copy of CUR into DLV and the clearing of FIRST that end every BUILD that does not fault (R165, R166). -/
def advanceBaseline (s : State) : State := (s.setDlv s.cur).setFirst false

/-- `MemWrite(BUF + k, 1, CUR[k])` for k = 0..3 (R165). -/
def storeReport (s : State) : State := s.setMem (s.mem.writeReport (bufOperand s) s.cur)

/-- BUILD (R165): with a buffer present, the buffer is checked before any byte is written, and the report is stored; with or
without a buffer the baseline advances. -/
def execBuild (present : Bool) (s : State) : Host.Outcome State Fault Refusal :=
  afterInit s
    (if present then
      if bufferOk s then .next ((advanceBaseline (storeReport s)).driveResult none) else raiseFault .badBuffer s
    else .next ((advanceBaseline s).driveResult none))

/-- Descriptor button n of a report, n = 0..15: bit n of byte 2, and bit n - 8 of byte 3 from 8 on (R53). -/
def descriptorButton (v : Snapshot) (n : Fin 16) : Bool :=
  if n.val < 8 then v.btnLo.getLsbD n.val else v.btnHi.getLsbD (n.val - 8)

end Sys2Proof.Machine
end

