-- ==== Sys2Proof/Machine/InputDecoder.lean ====
section
/-! DEFINITION. The input demultiplexer and button/axis decoder (spec/41_decoder.md): DECODE, from an inverted sample to a
snapshot. It reads no state (R138). -/

namespace Sys2Proof.Machine

/-- LINE_UP (R7). -/
def lineUp : Line := ⟨.g0, lineUpBit⟩

/-- LINE_DOWN (R7). -/
def lineDown (m : LineMap) : Line := ⟨.g0, m.table.down⟩

/-- LINE_LEFT (R7). -/
def lineLeft (m : LineMap) : Line := ⟨.g0, m.table.left⟩

/-- LINE_RIGHT (R7). -/
def lineRight (m : LineMap) : Line := ⟨.g0, m.table.right⟩

/-- BTN_MAP(Bi), i = 0..7 (R7). -/
def buttonLine (m : LineMap) (i : Fin 8) : Line := m.table.btnMap[i]

/-- `LINE(a, b, Gg.i)`, the demultiplexer (R130). -/
def lineBit (a b : Byte) (l : Line) : Bool :=
  match l.group with
  | .g0 => a.getLsbD l.bit.val
  | .g1 => b.getLsbD l.bit.val

/-- An axis: 128, overwritten by 0 and then by 255, so that the later write wins (R130, R133). -/
def axis (toZero toFull : Bool) : Byte :=
  let v : Byte := 128
  let v : Byte := if toZero then 0 else v
  if toFull then 255 else v

/-- Byte 2 of the snapshot: bit i is B_i for i = 0..5, the other bits 0 (R130, R135, R136). -/
def buttonsLo (m : LineMap) (a b : Byte) : Byte :=
  [0, 1, 2, 3, 4, 5].foldl (fun v (i : Fin 8) => setBit v i.val (lineBit a b (buttonLine m i))) 0x00

/-- Byte 3 of the snapshot: bit 0 is B6, bit 1 is B7, the other bits 0 (R130, R135, R136). -/
def buttonsHi (m : LineMap) (a b : Byte) : Byte :=
  setBit (setBit 0x00 0 (lineBit a b (buttonLine m 6))) 1 (lineBit a b (buttonLine m 7))

/-- DECODE(a, b) (R130). -/
def decodeSample (m : LineMap) (a b : Byte) : Snapshot where
  y := axis (lineBit a b lineUp) (lineBit a b (lineDown m))
  x := axis (lineBit a b (lineLeft m)) (lineBit a b (lineRight m))
  btnLo := buttonsLo m a b
  btnHi := buttonsHi m a b

end Sys2Proof.Machine
end

