-- ==== Sys2Proof/Machine/Sampler.lean ====
section
/-! DEFINITION. The GPIO sampler (spec/40_sampler.md): SAMPLE, and the two commands that sample, INIT and UPDATE. -/

namespace Sys2Proof.Machine

/-- SAMPLE (R102): both groups are read, G0 first, and inverted; a set bit means asserted. It keeps nothing (R104). -/
def sample (s : State) : Byte × Byte := (~~~(pinRead s .g0), ~~~(pinRead s .g1))

/-- `(a, b) <- SAMPLE(); CUR <- DECODE(a, b)`, the pair of lines INIT and UPDATE share (R105, R108). -/
def sampleIntoCur (s : State) : State := s.setCur (decodeSample s.params.lineMap (sample s).1 (sample s).2)

/-- The body of INIT between `IE <- 0` and `IE <- saved` (R105). -/
def configureAndSample (s : State) : State :=
  ((sampleIntoCur (s.setCfg allInputsPulledUp)).setFirst true).setInitDone true

/-- INIT (R105). IE is saved, cleared for the duration, and restored (R106); INIT may be repeated (R107). -/
def execInit (s : State) : Host.Outcome State Fault Refusal :=
  whileRunning s (.next (((configureAndSample (s.setIe false)).setIe s.ie).driveResult none))

/-- UPDATE (R108). -/
def execUpdate (s : State) : Host.Outcome State Fault Refusal :=
  afterInit s (.next ((sampleIntoCur s).driveResult none))

end Sys2Proof.Machine
end

