-- ==== Sys2Proof/Machine/Dispatch.lean ====
section
/-! DEFINITION. From each command to its meaning. -/

namespace Sys2Proof.Machine

/-- The meaning of a command at a state whose input ports show its operands. -/
def exec (i : Instr) (s : State) : Host.Outcome State Fault Refusal :=
  match i with
  | .init => Sys2Proof.Machine.execInit s
  | .update => Sys2Proof.Machine.execUpdate s
  | .haschg => Sys2Proof.Machine.execHaschg s
  | .build present => Sys2Proof.Machine.execBuild present s

end Sys2Proof.Machine
end

