-- ==== Sys2Proof/Machine/Command.lean ====
section
/-! DEFINITION. How a command comes to run: the host's next request on the ports (R27, R206), and its word decoded and
executed (R78, R204). -/

namespace Sys2Proof.Machine

/-- The state in which the input ports show the host's next request; `none` where the host has none to issue. -/
def nextRequest (s : State) : Option State :=
  match s.pending with
  | [] => none
  | r :: rest => some (s.present r rest)

/-- The command on the CMD port, decoded and executed; an illegal word raises RESERVED_CMD (R78, R204). -/
def runCommand (s : State) : Host.Outcome State Fault Refusal :=
  match decode s.cmd with
  | .ok i => exec i s
  | .error _ => execIllegal s

/-- `s` with one more request before those pending, its command word `w`, the other ports as they stand in `s`. -/
def State.request (s : State) (w : Byte) : State := { s with pending := s.requestOf w :: s.pending }

end Sys2Proof.Machine
end

