-- ==== Sys2Proof/Machine/Step.lean ====
section
/-! DEFINITION. One step of the machine: one host request, executed as one atomic command (R13, R27, R59). -/

namespace Sys2Proof.Machine

/-- One step: the host's next request is presented and its command runs to its end; with no request the block waits. -/
def step (s : State) : Host.Outcome State Fault Refusal :=
  match nextRequest s with
  | none => idle s
  | some t => runCommand t

/-- The host's next request becomes the command whose bits are `w` (notes/assumptions/2.md). -/
def State.withFetchWord (s : State) (nbits w : Nat) : State := s.request (cmdOfBits nbits w)

end Sys2Proof.Machine
end

