-- ==== Sys2Proof/Machine/HostPoll.lean ====
section
/-! DEFINITION. The host's side of the pump (R80, R206): issuing one request, and `POLL @a`, which is no command of the
block and has no word. -/

namespace Sys2Proof.Machine

/-- Issue one request now, before those pending. -/
def issue (r : Request) (s : State) : Host.Outcome State Fault Refusal := step { s with pending := r :: s.pending }

/-- Go on from a next state; a fault or a refusal ends the sequence. -/
def andThen (o : Host.Outcome State Fault Refusal) (f : State → Host.Outcome State Fault Refusal) :
    Host.Outcome State Fault Refusal :=
  match o with
  | .next s => f s
  | .fault r => .fault r
  | .refused r => .refused r

/-- `POLL @a` (R80): UPDATE, then HASCHG, and `BUILD @a` if RESULT = 1. The three requests give the ports' values for the
three commands, `a` being the third's BUF_ADDR; their words are the commands'. -/
def poll (upd chk rep : Request) (s : State) : Host.Outcome State Fault Refusal :=
  andThen (issue { upd with cmd := encode .update } s) fun s₁ =>
    andThen (issue { chk with cmd := encode .haschg } s₁) fun s₂ =>
      if s₂.result = some true then issue { rep with cmd := encode (.build true) } s₂ else .next s₂

end Sys2Proof.Machine
end

