-- ==== Sys2Proof/Safety.lean ====
section
/-! DEFINITION. What counts as a safe run, in the terms the statements use: a good state (R205), the legal values of a
snapshot (R21), the invariants of R26, R30 and R31, the host duties of R206, and what the host sees (R29, R35). -/

namespace Sys2Proof.Machine

/-! ### Good states and safe runs -/

/-- A good state: no fault is recorded. A faulted state is never a good final state (spec/60_exceptions.md, R205). -/
def State.good (s : State) : Prop := s.fault = .noFault

/-- `k` steps from `s` end in a good state. -/
def safeRun (k : Nat) (s : State) : Prop := ∃ t, Host.Core.run Sys2Proof.core k s = .next t ∧ State.good t

/-! ### Legal snapshots (R21) -/

/-- An axis byte is 0, 128 or 255. -/
def axisLegal (v : Byte) : Prop := v = 0 ∨ v = 128 ∨ v = 255

/-- The legal values of R21: bits 7:6 of byte 2 and bits 7:2 of byte 3 are 0. -/
def Snapshot.legal (v : Snapshot) : Prop :=
  axisLegal v.x ∧ axisLegal v.y ∧ v.btnLo.toNat < 0x40 ∧ v.btnHi.toNat < 0x04

/-! ### Invariants -/

/-- R31: once INIT_DONE = 1, CUR is legal, and DLV is whenever FIRST = 0. -/
def snapshotsLegal (s : State) : Prop := s.initDone = true → s.cur.legal ∧ (s.first = false → s.dlv.legal)

/-- R26: after INIT every line is an input with its pull-up enabled. -/
def linesConfigured (s : State) : Prop := s.initDone = true → s.cfg = allInputsPulledUp

/-- The memory is in canonical form, inside the host's address space (R33, R54). -/
def memoryCanonical (s : State) : Prop := s.mem.wf ∧ ∀ c ∈ s.mem, c.1 < 2 ^ s.params.addrW

/-- The recorded fault fits INIT_DONE: NOT_INIT is raised only while it is 0, BAD_BUFFER only while it is 1 (R200, R204). -/
def faultFitsInit (s : State) : Prop :=
  (s.fault = .notInit → s.initDone = false) ∧ (s.fault = .badBuffer → s.initDone = true)

/-- The invariant of what stands around the snapshots: the lines, the host memory and the fault code. -/
def machineInv (s : State) : Prop := linesConfigured s ∧ memoryCanonical s ∧ faultFitsInit s

/-! ### The history behind FIRST and DLV (R30) -/

/-- CUR as it was at the last BUILD since the last INIT, `none` where there was none: `g` before the step from `s` to `s'`,
this after it. A command that faults leaves it as it was. -/
def reportSinceInit (g : Option Snapshot) (s s' : State) : Option Snapshot :=
  if s'.fault = .noFault then
    match nextRequest s with
    | none => g
    | some t =>
      match decode t.cmd with
      | .ok .init => none
      | .ok (.build _) => some t.cur
      | _ => g
  else g

/-- R30: once INIT has run, FIRST = 0 implies that a BUILD has run since the last INIT and that DLV is CUR as it was then. -/
def deliveredFits (g : Option Snapshot) (s : State) : Prop :=
  s.initDone = true → s.first = false → g = some s.dlv

/-! ### The host's duties (R206) -/

/-- The requests, issued one after the other, keep the contract: every word is legal, INIT comes before any other command
(`initDone` says whether it has run), and a present buffer is a writable 4-byte region. -/
def contractKept (p : Params) : Bool → List Request → Bool
  | _, [] => true
  | initDone, r :: rest =>
    match decode r.cmd with
    | .error _ => false
    | .ok .init => contractKept p true rest
    | .ok (.build true) =>
      initDone && (r.memOk && rangeFits p.addrW (r.bufAddr % 2 ^ p.addrW)) && contractKept p initDone rest
    | .ok .update => initDone && contractKept p initDone rest
    | .ok .haschg => initDone && contractKept p initDone rest
    | .ok (.build false) => initDone && contractKept p initDone rest

/-! ### What the host sees (R29, R35) -/

/-- The part of a state the host can see: RESULT, the bytes BUILD has written, its own IE, and the model's fault code. -/
structure HostView where
  result : Option Bool
  mem : Memory
  ie : Bool
  fault : FaultCode
  deriving DecidableEq, Repr

/-- What the host sees of a state. -/
def hostView (s : State) : HostView := ⟨s.result, s.mem, s.ie, s.fault⟩

/-- What the host sees of a run. -/
def observe (o : Host.Outcome State Fault Refusal) : Host.Outcome HostView Fault Refusal :=
  match o with
  | .next s => .next (hostView s)
  | .fault r => .fault r
  | .refused r => .refused r

end Sys2Proof.Machine
end

