-- ==== Sys2Proof/Certificates/Slice0/Obligations.lean ====
section
/-! DEFINITION. The statements for the provers. -/

open Sys2Proof Sys2Proof.Machine

/-! ### The command word (spec/30_encoding.md) -/

/-- Words written out from R71 and R72 decode to their commands, B = 1 being read for BUILD (R73). The encoding is the
spec's decision D2. -/
def Obligations.SpecWordsDecode : Prop :=
  decode 0b00000_0_00 = .ok .init ∧ decode 0b00000_0_01 = .ok .update ∧ decode 0b00000_0_10 = .ok .haschg ∧
    decode 0b00000_0_11 = .ok (.build false) ∧ decode 0b00000_1_11 = .ok (.build true)

/-- R79 (decision D2): the words and the BUF_ADDR of the five assembler lines. -/
def Obligations.AssemblerLinesGiveTheirWords : Prop :=
  assemble .init = (0x00, none) ∧ assemble .update = (0x01, none) ∧ assemble .haschg = (0x02, none) ∧
    assemble .build = (0x03, none) ∧ ∀ a, assemble (.buildAt a) = (0x07, some a)

/-- R78 (decision D2): RES ≠ 0 is refused first; then B = 1 with OP ≠ 11. The two names are the model's. -/
def Obligations.IllegalFieldsAreRefusedByName : Prop :=
  ∀ w : Byte,
    (w.extractLsb' 3 5 ≠ 0 → decode w = .error .reservedBits) ∧
    (w.extractLsb' 3 5 = 0 → w.getLsbD 2 = true → w.extractLsb' 0 2 ≠ 3 → decode w = .error .bufferWithoutBuild)

/-- Decode and encode agree: each instruction's word decodes to it, and a word decodes to no other instruction than the
one whose word it is. -/
def Obligations.DecodeAndEncodeAgree : Prop :=
  (∀ i : Instr, i.wellFormed = true → decode (encode i) = .ok i) ∧
    ∀ (w : Byte) (i : Instr), decode w = .ok i → encode i = w

/-- R76 (decision D2): the five legal words run their commands, and every other word raises RESERVED_CMD. -/
def Obligations.OnlyFiveWordsAreLegal : Prop :=
  ∀ s : State,
    (s.cmd = 0x00 → runCommand s = exec .init s) ∧
    (s.cmd = 0x01 → runCommand s = exec .update s) ∧
    (s.cmd = 0x02 → runCommand s = exec .haschg s) ∧
    (s.cmd = 0x03 → runCommand s = exec (.build false) s) ∧
    (s.cmd = 0x07 → runCommand s = exec (.build true) s) ∧
    (s.cmd ∉ [0x00#8, 0x01#8, 0x02#8, 0x03#8, 0x07#8] → s.fault = .noFault →
      runCommand s = .next { s with fault := .reservedCmd, result := none })

/-! ### Steps (spec/00_scope.md R13, spec/10_state.md R27, spec/60_exceptions.md R204, R205) -/

/-- The step at a state whose next request holds the word of `i` is `exec i` with the request on the input ports. -/
def Obligations.StepRunsTheDecodedCommand : Prop :=
  ∀ (s : State) (r : Request) (rest : List Request) (i : Instr),
    s.pending = r :: rest → decode r.cmd = .ok i →
      step s = exec i { s with
        cmd := r.cmd, bufAddr := r.bufAddr, memOk := r.memOk, pin0 := r.pin0, pin1 := r.pin1, ie := r.ie
        pending := rest }

/-- With no request the block waits (R230): the step leaves a block that is not stopped as it is. The idle step is the
model's form of waiting (notes/assumptions/2.md). -/
def Obligations.BlockWaitsForTheNextRequest : Prop :=
  ∀ s : State, s.pending = [] → s.fault = .noFault → step s = .next s

/-- R205 (decision D12): once FAULT is not 0, no command is executed and no step is taken. -/
def Obligations.StoppedBlockTakesNoStep : Prop :=
  ∀ s : State, s.fault ≠ .noFault →
    (∀ i, exec i s = .fault (.stopped s.fault)) ∧ step s = .fault (.stopped s.fault)

/-- R239 (decision D25): a block that is not stopped completes its step, whatever the host and the pins do. -/
def Obligations.RunningBlockCompletesEveryStep : Prop :=
  ∀ s : State, s.fault = .noFault → ∃ t, step s = .next t

/-- The values of the fault codes in FAULT (R200, decision D12). -/
def Obligations.FaultCodesHaveTheirValues : Prop :=
  FaultCode.code .noFault = 0 ∧ FaultCode.code .notInit = 1 ∧ FaultCode.code .badBuffer = 2 ∧
    FaultCode.code .reservedCmd = 3

/-- R204 (decision D12): a stopped block takes no step; then RESERVED_CMD comes before NOT_INIT, NOT_INIT before
BAD_BUFFER, and INIT raises none of them. -/
def Obligations.FaultPriorityFollowsThePrecheck : Prop :=
  ∀ (s : State) (r : Request) (rest : List Request), s.pending = r :: rest →
    (s.fault ≠ .noFault → step s = .fault (.stopped s.fault)) ∧
    (s.fault = .noFault → ∀ e, decode r.cmd = .error e → ∃ t, step s = .next t ∧ t.fault = .reservedCmd) ∧
    (s.fault = .noFault → ∀ i, decode r.cmd = .ok i → i ≠ .init → s.initDone = false →
      ∃ t, step s = .next t ∧ t.fault = .notInit) ∧
    (s.fault = .noFault → decode r.cmd = .ok (.build true) → s.initDone = true → r.memOk = false →
      ∃ t, step s = .next t ∧ t.fault = .badBuffer) ∧
    (s.fault = .noFault → decode r.cmd = .ok .init → ∃ t, step s = .next t ∧ t.fault = .noFault)

/-- R205 (decision D12): a step that raises a fault writes the code of its cause (R200) and nothing else, drives no
RESULT, and no later step is taken. IE is the host's value when the command starts. -/
def Obligations.FaultsArePreciseAndFinal : Prop :=
  ∀ s t : State, s.fault = .noFault → step s = .next t → t.fault ≠ .noFault →
    t.cur = s.cur ∧ t.dlv = s.dlv ∧ t.first = s.first ∧ t.initDone = s.initDone ∧ t.cfg = s.cfg ∧ t.mem = s.mem ∧
    t.params = s.params ∧ t.result = none ∧
    (∃ r rest, s.pending = r :: rest ∧ t.ie = r.ie ∧
      ((t.fault = .reservedCmd ∧ ∃ e, decode r.cmd = .error e) ∨
        (t.fault = .notInit ∧ s.initDone = false ∧ ∃ i, decode r.cmd = .ok i ∧ i ≠ .init) ∨
        (t.fault = .badBuffer ∧ s.initDone = true ∧ decode r.cmd = .ok (.build true) ∧
          (r.memOk = false ∨ 2 ^ s.params.addrW - 1 < r.bufAddr % 2 ^ s.params.addrW + 3)))) ∧
    ∀ k, Host.Core.run Sys2Proof.core (k + 1) t = .fault (.stopped t.fault)

/-! ### SAMPLE and DECODE (spec/40_sampler.md, spec/41_decoder.md) -/

/-- R102 (decision D4): SAMPLE reads both groups and inverts them, so that a bit is 1 exactly when its line is low. -/
def Obligations.SampleInvertsBothGroups : Prop :=
  ∀ s : State, sample s = (~~~s.pin0, ~~~s.pin1) ∧
    ∀ i, i < 8 → ((sample s).1.getLsbD i = true ↔ s.pin0.getLsbD i = false) ∧
      ((sample s).2.getLsbD i = true ↔ s.pin1.getLsbD i = false)

/-- R131: the vertical axis. -/
def Obligations.VerticalAxisTable : Prop :=
  ∀ (m : LineMap) (a b : Byte),
    (lineBit a b lineUp = false → lineBit a b (lineDown m) = false → (decodeSample m a b).y = 128) ∧
    (lineBit a b lineUp = true → lineBit a b (lineDown m) = false → (decodeSample m a b).y = 0) ∧
    (lineBit a b lineUp = false → lineBit a b (lineDown m) = true → (decodeSample m a b).y = 255) ∧
    (lineBit a b lineUp = true → lineBit a b (lineDown m) = true → (decodeSample m a b).y = 255)

/-- R132: the horizontal axis. -/
def Obligations.HorizontalAxisTable : Prop :=
  ∀ (m : LineMap) (a b : Byte),
    (lineBit a b (lineLeft m) = false → lineBit a b (lineRight m) = false → (decodeSample m a b).x = 128) ∧
    (lineBit a b (lineLeft m) = true → lineBit a b (lineRight m) = false → (decodeSample m a b).x = 0) ∧
    (lineBit a b (lineLeft m) = false → lineBit a b (lineRight m) = true → (decodeSample m a b).x = 255) ∧
    (lineBit a b (lineLeft m) = true → lineBit a b (lineRight m) = true → (decodeSample m a b).x = 255)

/-- R236 (derived by the spec): all four direction lines are in G0, so each axis comes from the one read of G0. -/
def Obligations.AxesComeFromOneInstant : Prop :=
  ∀ (m : LineMap) (a b b' : Byte),
    (decodeSample m a b).x = (decodeSample m a b').x ∧ (decodeSample m a b).y = (decodeSample m a b').y

/-- R135 (its map open by decision D5): a button bit is 1 exactly when its line is low, and no two button bits read one
line. -/
def Obligations.ButtonBitsFollowTheirLines : Prop :=
  ∀ s : State,
    let v := decodeSample s.params.lineMap (sample s).1 (sample s).2
    let low := fun i => !lineBit s.pin0 s.pin1 (buttonLine s.params.lineMap i)
    (∀ i : Fin 8, i.val < 6 → v.btnLo.getLsbD i.val = low i) ∧
      v.btnHi.getLsbD 0 = low 6 ∧ v.btnHi.getLsbD 1 = low 7 ∧
      ∀ i j, buttonLine s.params.lineMap i = buttonLine s.params.lineMap j → i = j

/-- R137 (derived by the spec): the range of DECODE. -/
def Obligations.DecodedBytesStayInRange : Prop :=
  ∀ (m : LineMap) (a b : Byte),
    ((decodeSample m a b).x = 0 ∨ (decodeSample m a b).x = 128 ∨ (decodeSample m a b).x = 255) ∧
    ((decodeSample m a b).y = 0 ∨ (decodeSample m a b).y = 128 ∨ (decodeSample m a b).y = 255) ∧
    (decodeSample m a b).btnLo.toNat < 0x40 ∧ (decodeSample m a b).btnHi.toNat < 0x04

/-- R139 (derived by the spec): DECODE reads the four direction lines and the eight mapped button lines alone, and its
image is exactly 2304 snapshots: every X and Y in 0, 128, 255 and every 8-bit button pattern. -/
def Obligations.DecodeImageIsEveryLegalSnapshot : Prop :=
  ∀ m : LineMap,
    (∀ a b a' b' : Byte,
      (∀ l, l ∈ [lineUp, lineDown m, lineLeft m, lineRight m] ∨ (∃ i, l = buttonLine m i) →
        lineBit a b l = lineBit a' b' l) →
      decodeSample m a b = decodeSample m a' b') ∧
    (∀ v : Snapshot, (∃ a b, decodeSample m a b = v) ↔ v.legal) ∧
    ∃ image : List Snapshot, image.Nodup ∧ image.length = 3 * 3 * 2 ^ 8 ∧
      ∀ v, v ∈ image ↔ ∃ a b, decodeSample m a b = v

/-- W1: P0 = 0xDF and P1 = 0xFF, the up line alone low, give [128, 0, 0, 0] for every line map. -/
def Obligations.UpLineAloneGivesItsReport : Prop :=
  ∀ s : State, s.pin0 = 0xDF → s.pin1 = 0xFF →
    decodeSample s.params.lineMap (sample s).1 (sample s).2 = ⟨128, 0, 0x00, 0x00⟩

/-- R53 (derived by the spec): B0..B5 reach the host as descriptor buttons 0 to 5, B6 and B7 as 8 and 9, and the other
descriptor buttons of a decoded report are 0. -/
def Obligations.DescriptorButtonsOfAReport : Prop :=
  ∀ (m : LineMap) (a b : Byte),
    (∀ i : Fin 8, descriptorButton (decodeSample m a b) (if i.val < 6 then ⟨i.val, by omega⟩ else ⟨i.val + 2, by omega⟩)
      = lineBit a b (buttonLine m i)) ∧
    ∀ n : Fin 16, (n = 6 ∨ n = 7 ∨ 10 ≤ n.val) → descriptorButton (decodeSample m a b) n = false

/-! ### INIT and UPDATE (spec/40_sampler.md) -/

/-- INIT completes whenever the block is not stopped (R105, decision D16): it configures the lines, samples into CUR, sets
FIRST and INIT_DONE, and leaves DLV, IE, host memory and everything else as they were. -/
def Obligations.InitConfiguresAndSamples : Prop :=
  ∀ s : State, s.fault = .noFault →
    exec .init s = .next { s with
      cfg := ⟨Vector.replicate 8 ⟨.input, true⟩, Vector.replicate 8 ⟨.input, true⟩⟩
      cur := decodeSample s.params.lineMap (~~~s.pin0) (~~~s.pin1)
      first := true, initDone := true, result := none }

/-- UPDATE completes after INIT (R108): CUR is overwritten from a fresh sample, no RESULT is driven, and nothing else
changes. -/
def Obligations.UpdateOverwritesCurAlone : Prop :=
  ∀ s : State, s.fault = .noFault → s.initDone = true →
    exec .update s = .next { s with
      cur := decodeSample s.params.lineMap (~~~s.pin0) (~~~s.pin1), result := none }

/-- R109: the CUR that UPDATE writes is a function of the two levels read and of the line map alone. -/
def Obligations.UpdateKeepsNoHistory : Prop :=
  ∀ s s' : State, s.fault = .noFault → s.initDone = true → s'.fault = .noFault → s'.initDone = true →
    s.params.lineMap = s'.params.lineMap → s.pin0 = s'.pin0 → s.pin1 = s'.pin1 →
    ∃ t t', exec .update s = .next t ∧ exec .update s' = .next t' ∧ t.cur = t'.cur

/-- R111 (derived by the spec): the levels of lines that DECODE does not read have no effect on the CUR that INIT and
UPDATE write. -/
def Obligations.UnreadLinesHaveNoEffect : Prop :=
  ∀ (s : State) (q0 q1 : Byte), s.fault = .noFault →
    (∀ l, l ∈ [lineUp, lineDown s.params.lineMap, lineLeft s.params.lineMap, lineRight s.params.lineMap] ∨
        (∃ i, l = buttonLine s.params.lineMap i) → lineBit s.pin0 s.pin1 l = lineBit q0 q1 l) →
    ∀ i, i = .init ∨ (i = .update ∧ s.initDone = true) →
      ∃ t t', exec i s = .next t ∧ exec i { s with pin0 := q0, pin1 := q1 } = .next t' ∧ t.cur = t'.cur

/-! ### HASCHG (spec/42_change_detector.md) -/

/-- HASCHG completes after INIT (R160, decisions D7 and D26): RESULT is 1 if FIRST = 1 or CUR and DLV differ, and 0
otherwise; nothing else changes. -/
def Obligations.HaschgDrivesResultAlone : Prop :=
  ∀ s : State, s.fault = .noFault → s.initDone = true →
    exec .haschg s = .next { s with result := some (s.first || decide (s.cur ≠ s.dlv)) }

/-- R161: with FIRST = 0 the result is 1 exactly when some bit of some byte differs. -/
def Obligations.HaschgSeesAnyDifferingBit : Prop :=
  ∀ s : State, s.fault = .noFault → s.initDone = true → s.first = false →
    ∃ t, exec .haschg s = .next t ∧
      (t.result = some true ↔ ∃ (k : Fin 4) (j : Nat), j < 8 ∧ (s.cur.byte k).getLsbD j ≠ (s.dlv.byte k).getLsbD j) ∧
      (t.result = some false ↔ s.cur = s.dlv)

/-- R163: HASCHG writes no state, and a second HASCHG returns the same result. -/
def Obligations.HaschgIsReadOnlyAndRepeatable : Prop :=
  ∀ s : State, s.fault = .noFault → s.initDone = true →
    ∃ t, exec .haschg s = .next t ∧ t = { s with result := t.result } ∧ exec .haschg t = .next t

/-- R162: from INIT until the next BUILD every HASCHG returns 1, whatever UPDATEs, HASCHGs and INITs come between. That
FIRST is cleared by BUILD and not by HASCHG is the spec's decision D7. -/
def Obligations.ForcedChangeLastsUntilBuild : Prop :=
  ∀ (s t : State) (between : List Request) (h : Request), s.fault = .noFault → exec .init s = .next t →
    t.pending = between ++ [h] →
    (∀ r ∈ between, decode r.cmd = .ok .init ∨ decode r.cmd = .ok .update ∨ decode r.cmd = .ok .haschg) →
    decode h.cmd = .ok .haschg →
    ∃ u, Host.Core.run Sys2Proof.core (between.length + 1) t = .next u ∧ u.result = some true

/-- R169 (derived by the spec): after a BUILD that does not fault, a HASCHG compares the CUR of the last UPDATE with the
CUR that BUILD delivered, and returns 0 where no UPDATE came between. -/
def Obligations.HaschgAfterBuildComparesWithDelivered : Prop :=
  ∀ (s t : State) (p : Bool) (before after : List Request) (u h : Request),
    exec (.build p) s = .next t → t.fault = .noFault → decode u.cmd = .ok .update → decode h.cmd = .ok .haschg →
    (∀ r ∈ before, decode r.cmd = .ok .update ∨ decode r.cmd = .ok .haschg) →
    (∀ r ∈ after, decode r.cmd = .ok .haschg) →
    (t.pending = after ++ [h] →
      ∃ w, Host.Core.run Sys2Proof.core (after.length + 1) t = .next w ∧ w.result = some false) ∧
    (t.pending = before ++ u :: (after ++ [h]) →
      ∃ w, Host.Core.run Sys2Proof.core (before.length + after.length + 2) t = .next w ∧
        w.result = some (decide (decodeSample s.params.lineMap (~~~u.pin0) (~~~u.pin1) ≠ s.cur)))

/-! ### BUILD (spec/42_change_detector.md, spec/20_memory.md) -/

/-- BUILD without a buffer completes after INIT (R165): DLV takes CUR, FIRST is cleared, and nothing else changes, host
memory included; the buffer address and MEM_OK are not looked at. -/
def Obligations.BuildWithoutBufferAdvancesBaseline : Prop :=
  ∀ s : State, s.fault = .noFault → s.initDone = true →
    exec (.build false) s = .next { s with dlv := s.cur, first := false, result := none }

/-- BUILD with a writable buffer that does not wrap (decision D13) completes after INIT (R165): as without one, and host
memory is written by the model's four byte writes at BUF. -/
def Obligations.BuildWithBufferStoresAndAdvances : Prop :=
  ∀ s : State, s.fault = .noFault → s.initDone = true → s.memOk = true →
    s.bufAddr % 2 ^ s.params.addrW + 3 ≤ 2 ^ s.params.addrW - 1 →
    exec (.build true) s = .next { s with
      dlv := s.cur, first := false, result := none, mem := s.mem.writeReport (bufOperand s) s.cur }

/-- R170, R52: the four bytes of CUR stand at BUF..BUF+3 afterwards, in order, and every other byte of host memory is
unchanged: no report ID, header or padding. -/
def Obligations.BuildWritesFourBytesInOrder : Prop :=
  reportSize = 4 ∧ ∀ s : State, s.fault = .noFault → s.initDone = true → s.memOk = true →
    s.bufAddr % 2 ^ s.params.addrW + 3 ≤ 2 ^ s.params.addrW - 1 →
    ∃ t, exec (.build true) s = .next t ∧
      (∀ k : Fin 4, t.mem.read (bufOperand s + k.val) = some (s.cur.byte k)) ∧
      ∀ a, a < bufOperand s ∨ bufOperand s + reportSize ≤ a → t.mem.read a = s.mem.read a

/-- R54, R202 (decision D13): a present buffer that is not writable or wraps raises BAD_BUFFER before any byte is
written. -/
def Obligations.BadBufferFaultsBeforeAnyWrite : Prop :=
  ∀ s : State, s.fault = .noFault → s.initDone = true →
    (s.memOk = false ∨ 2 ^ s.params.addrW - 1 < s.bufAddr % 2 ^ s.params.addrW + 3) →
    exec (.build true) s = .next { s with fault := .badBuffer, result := none }

/-- R167: BUILD does not sample the pins: with any other levels shown it does the same, and the report and the new DLV are
CUR. -/
def Obligations.BuildDoesNotSample : Prop :=
  ∀ (s t : State) (p : Bool) (q0 q1 : Byte), exec (.build p) s = .next t → t.fault = .noFault →
    exec (.build p) { s with pin0 := q0, pin1 := q1 } = .next { t with pin0 := q0, pin1 := q1 } ∧ t.dlv = s.cur ∧
      t.cur = s.cur ∧ (p = true → ∀ k : Fin 4, t.mem.read (bufOperand s + k.val) = some (s.cur.byte k))

/-- R168: BUILD without a buffer still advances the baseline, so a HASCHG after it returns 0. -/
def Obligations.HaschgAfterBuildReturnsZero : Prop :=
  ∀ s : State, s.fault = .noFault → s.initDone = true →
    ∃ t u, exec (.build false) s = .next t ∧ t.mem = s.mem ∧ t.dlv = s.cur ∧
      exec .haschg t = .next u ∧ u.result = some false

/-- R80 (decision D2), R108, R160, R165: POLL on a running block after INIT, with a good buffer, leaves CUR and DLV at the
fresh sample's snapshot and FIRST cleared; the buffer holds the report if FIRST was set or the snapshot is new, and host
memory is unchanged otherwise. POLL as the host's sequence over step is the model's form of R80 (notes/assumptions/18.md).
What it says of host memory spans three commands and rests on the model's choice that memory changes by BUILD alone, the
host's own writes between commands being left out (DESIGN CHOICE, unsafe, notes/assumptions/6.md). -/
def Obligations.PollTransmitsExactlyWhenChanged : Prop :=
  ∀ (s : State) (upd chk rep : Request), s.fault = .noFault → s.initDone = true → rep.memOk = true →
    rep.bufAddr % 2 ^ s.params.addrW + 3 ≤ 2 ^ s.params.addrW - 1 →
    let v := decodeSample s.params.lineMap (~~~upd.pin0) (~~~upd.pin1)
    let buf := rep.bufAddr % 2 ^ s.params.addrW
    ∃ t, poll upd chk rep s = .next t ∧ t.fault = .noFault ∧ t.cur = v ∧ t.dlv = v ∧ t.first = false ∧
      t.pending = s.pending ∧
      (s.first = true ∨ v ≠ s.dlv →
        (∀ k : Fin 4, t.mem.read (buf + k.val) = some (v.byte k)) ∧
          ∀ a, a < buf ∨ buf + 4 ≤ a → t.mem.read a = s.mem.read a) ∧
      (s.first = false → v = s.dlv → t.mem = s.mem)

/-! ### Which command writes what (spec/10_state.md) -/

/-- R20: only INIT and UPDATE write CUR, all four bytes from the sample of the levels shown with the command. -/
def Obligations.OnlyInitAndUpdateWriteCur : Prop :=
  ∀ s t : State, step s = .next t → t.cur ≠ s.cur →
    ∃ r rest, s.pending = r :: rest ∧ (decode r.cmd = .ok .init ∨ decode r.cmd = .ok .update) ∧
      t.cur = decodeSample s.params.lineMap (~~~r.pin0) (~~~r.pin1)

/-- R166: BUILD is the only writer of DLV, and every BUILD that does not fault writes it; R22: HASCHG is its only
reader. -/
def Obligations.OnlyBuildWritesDelivered : Prop :=
  (∀ s t : State, step s = .next t → t.dlv ≠ s.dlv →
    ∃ r rest p, s.pending = r :: rest ∧ decode r.cmd = .ok (.build p) ∧ t.dlv = s.cur) ∧
  (∀ (s t : State) (p : Bool), exec (.build p) s = .next t → t.fault = .noFault → t.dlv = s.cur) ∧
  ∀ (s t : State) (i : Instr) (v : Snapshot), i ≠ .haschg → exec i s = .next t →
    ∃ v', exec i { s with dlv := v } = .next { t with dlv := v' }

/-- R23 (decision D7): FIRST is set by INIT, cleared by BUILD and by nothing else, and read by HASCHG alone. -/
def Obligations.FirstIsSetByInitAndClearedByBuild : Prop :=
  (∀ s t : State, step s = .next t → t.first ≠ s.first →
    ∃ r rest, s.pending = r :: rest ∧
      ((t.first = true ∧ decode r.cmd = .ok .init) ∨ (t.first = false ∧ ∃ p, decode r.cmd = .ok (.build p)))) ∧
  (∀ s t : State, exec .init s = .next t → t.first = true) ∧
  (∀ (s t : State) (p : Bool), exec (.build p) s = .next t → t.fault = .noFault → t.first = false) ∧
  ∀ (s t : State) (i : Instr) (b : Bool), i ≠ .haschg → exec i s = .next t →
    ∃ b', exec i { s with first := b } = .next { t with first := b' }

/-- R24 (decision D10): INIT sets INIT_DONE, no step clears it, and every other command faults NOT_INIT while it is 0. -/
def Obligations.InitDoneIsSetByInitAndKept : Prop :=
  (∀ s t : State, exec .init s = .next t → t.initDone = true) ∧
  (∀ s t : State, step s = .next t → s.initDone = true → t.initDone = true) ∧
  (∀ s t : State, step s = .next t → t.initDone ≠ s.initDone →
    ∃ r rest, s.pending = r :: rest ∧ decode r.cmd = .ok .init) ∧
  ∀ (s : State) (i : Instr), s.fault = .noFault → s.initDone = false → i ≠ .init →
    exec i s = .next { s with fault := .notInit, result := none }

/-- R26 (decision D16): only INIT writes CFG, and after it every line is an input with its pull-up enabled. -/
def Obligations.OnlyInitConfiguresLines : Prop :=
  ∀ s t : State, step s = .next t → t.cfg ≠ s.cfg →
    ∃ r rest, s.pending = r :: rest ∧ decode r.cmd = .ok .init ∧
      ∀ i : Fin 8, t.cfg.g0[i] = ⟨.input, true⟩ ∧ t.cfg.g1[i] = ⟨.input, true⟩

/-- R106 (decision D21): every command leaves IE as it was before the command, and so does every step with the IE the host
has then. -/
def Obligations.InterruptEnableIsRestored : Prop :=
  (∀ (s t : State) (i : Instr), exec i s = .next t → t.ie = s.ie) ∧
  ∀ (s t : State) (r : Request) (rest : List Request), s.pending = r :: rest → step s = .next t → t.ie = r.ie

/-- R50: host memory changes only by a BUILD with a present buffer, at its four bytes. -/
def Obligations.OnlyBuildWithBufferWritesMemory : Prop :=
  ∀ (s t : State) (a : Nat), step s = .next t → t.mem.read a ≠ s.mem.read a →
    ∃ r rest, s.pending = r :: rest ∧ decode r.cmd = .ok (.build true) ∧
      r.bufAddr % 2 ^ s.params.addrW ≤ a ∧ a < r.bufAddr % 2 ^ s.params.addrW + 4

/-- R74 (decision D26): RESULT is driven by HASCHG alone. -/
def Obligations.OnlyHaschgDrivesResult : Prop :=
  ∀ (s t : State) (r : Request) (rest : List Request), s.pending = r :: rest → step s = .next t →
    t.result ≠ none → decode r.cmd = .ok .haschg ∧ t.fault = .noFault

/-! ### Reset, invariants and whole runs (spec/10_state.md R30, R31, R34, R35; spec/60_exceptions.md R206) -/

/-- R34, R230 (decision D11): after reset INIT_DONE = 0 and FAULT = 0. That nothing is listed in memory and no request is
pending is the model's choice (notes/assumptions/2.md and 6.md). -/
def Obligations.ResetIsUninitialisedAndUnfaulted : Prop :=
  State.reset.initDone = false ∧ State.reset.fault = .noFault ∧ State.reset.mem = [] ∧ State.reset.pending = []

/-- Both invariants hold at reset: the snapshots legal (R31, derived by the spec), the lines configured after INIT (R26),
the fault code fitting INIT_DONE (R200), and the memory canonical and inside the address space. That memory is empty at
reset and what its canonical form is are the model's choice (DESIGN CHOICE, notes/assumptions/6.md). -/
def Obligations.ResetMeetsTheInvariants : Prop := snapshotsLegal State.reset ∧ machineInv State.reset

/-- R31 (derived by the spec): every step keeps the snapshots legal, CUR once INIT_DONE = 1 and DLV whenever FIRST = 0
then. -/
def Obligations.SnapshotsStayLegal : Prop :=
  ∀ s t : State, snapshotsLegal s → step s = .next t → snapshotsLegal t

/-- Every step keeps the lines configured after INIT (R26), the memory canonical and inside the address space, and the
fault code fitting INIT_DONE (R200). The canonical form is the model's choice (notes/assumptions/6.md). -/
def Obligations.StepKeepsTheMachineInvariant : Prop :=
  ∀ s t : State, machineInv s → step s = .next t → machineInv t

/-- R30 (derived by the spec): FIRST = 0 after INIT implies a BUILD since the last INIT, and that DLV is CUR as it was
then. It holds at reset and every step keeps it. -/
def Obligations.DeliveredIsCurAtTheLastBuild : Prop :=
  deliveredFits none State.reset ∧
    ∀ (g : Option Snapshot) (s t : State), deliveredFits g s → step s = .next t →
      deliveredFits (reportSinceInit g s t) t

/-- R35 (derived by the spec): before INIT, other values of CUR, DLV, FIRST and CFG change nothing a host sees in any
run. -/
def Obligations.UnspecifiedResetValuesAreNeverSeen : Prop :=
  ∀ (s : State) (cur dlv : Snapshot) (first : Bool) (cfg : LineConfigs) (k : Nat), s.initDone = false →
    observe (Host.Core.run Sys2Proof.core k { s with cur := cur, dlv := dlv, first := first, cfg := cfg }) =
      observe (Host.Core.run Sys2Proof.core k s)

/-- R206 (decisions D10, D12, D13): the requests of a host run to a good state exactly when they keep the contract. -/
def Obligations.RunIsSafeExactlyWhenTheContractIsKept : Prop :=
  ∀ s : State, s.fault = .noFault →
    (safeRun s.pending.length s ↔ contractKept s.params s.initDone s.pending = true)

/-- No step writes the build-time parameters (R32). -/
def Obligations.ParametersAreFixed : Prop :=
  ∀ s t : State, step s = .next t → t.params = s.params
end

