-- ==== Sys2Proof/Laws/Decoder.lean ====
section
/-! SUPPORT. What DECODE's parts do: one bit set, a button byte bit by bit, and the constraints a line map carries. -/

namespace Sys2Proof.Machine

theorem getElem_setBit (v : Byte) (i j : Nat) (b : Bool) (hj : j < 8) :
    (setBit v i b)[j] = if j = i then b else v[j] := by
  cases b <;> simp [setBit] <;> by_cases hij : j = i <;> simp [hij] <;> omega

theorem getLsbD_setBit (v : Byte) (i j : Nat) (b : Bool) (hj : j < 8) :
    (setBit v i b).getLsbD j = if j = i then b else v.getLsbD j := by
  simp [BitVec.getLsbD_eq_getElem hj, getElem_setBit]

theorem getLsbD_buttonsLo (m : LineMap) (a b : Byte) (i : Fin 8) :
    (buttonsLo m a b).getLsbD i.val = (decide (i.val < 6) && lineBit a b (buttonLine m i)) := by
  simp only [buttonsLo, List.foldl_cons, List.foldl_nil]
  fin_cases i <;> simp [getElem_setBit]

theorem getLsbD_buttonsHi (m : LineMap) (a b : Byte) (j : Fin 8) :
    (buttonsHi m a b).getLsbD j.val =
      (if j = 0 then lineBit a b (buttonLine m 6) else if j = 1 then lineBit a b (buttonLine m 7) else false) := by
  simp only [buttonsHi]
  fin_cases j <;> simp [getElem_setBit]

theorem axis_eq (toZero toFull : Bool) :
    axis toZero toFull = if toFull then 255 else if toZero then 0 else 128 := by
  cases toZero <;> cases toFull <;> rfl

/-- BTN_MAP is injective (R7). -/
theorem buttonLine_injective (m : LineMap) {i j : Fin 8} (h : buttonLine m i = buttonLine m j) : i = j := by
  have hm := m.legal
  simp only [LineTable.wellFormed, LineTable.mapInjective, Bool.and_eq_true, decide_eq_true_eq] at hm
  have hn := hm.2
  have hi := List.Nodup.getElem_inj_iff hn (i := i.val) (hi := by simp) (j := j.val) (hj := by simp)
  simp only [Vector.getElem_toList] at hi
  exact Fin.ext (hi.1 h)

/-- The four direction lines and BTN_G0 are six distinct lines (R7). -/
theorem directionBits_distinct (m : LineMap) :
    [lineUpBit, m.table.down, m.table.left, m.table.right, m.table.btnG0Low, m.table.btnG0High].Nodup := by
  have hm := m.legal
  simp only [LineTable.wellFormed, LineTable.sixDistinct, Bool.and_eq_true, decide_eq_true_eq] at hm
  exact hm.1.1.1

/-- A button's line is in G1 or is one of the two lines of BTN_G0 (R7). -/
theorem buttonLine_isButtonLine (m : LineMap) (i : Fin 8) : m.table.isButtonLine (buttonLine m i) = true := by
  have hm := m.legal
  simp only [LineTable.wellFormed, LineTable.mapsToButtonLines, Bool.and_eq_true, List.all_eq_true] at hm
  exact hm.1.2 _ (by simp [buttonLine])

/-- Inverting both groups inverts every line (R102). -/
theorem lineBit_not (a b : Byte) (l : Line) : lineBit (~~~a) (~~~b) l = !lineBit a b l := by
  unfold lineBit
  split <;> simp [l.bit.isLt]

/-- SAMPLE inverts (R102). -/
@[simp] theorem sample_eq (s : State) : sample s = (~~~s.pin0, ~~~s.pin1) := rfl

end Sys2Proof.Machine
end

