-- ==== Sys2Proof/Laws/Detector.lean ====
section
/-! SUPPORT. What the comparison behind HASCHG and the buffer check of BUILD say, in the spec's terms. -/

namespace Sys2Proof.Machine

/-- The byte-exact comparison is equality of snapshots (R161). -/
theorem sameBytes_eq_decide (u v : Snapshot) : sameBytes u v = decide (u = v) := by
  rw [Bool.eq_iff_iff]
  cases u
  cases v
  simp [sameBytes, Snapshot.byte, and_assoc]

/-- Two snapshots are equal exactly when their four bytes are (R11). -/
theorem Snapshot.eq_iff_byte {u v : Snapshot} : u = v ↔ ∀ k, u.byte k = v.byte k := by
  constructor
  · rintro rfl _
    rfl
  · intro h
    cases u
    cases v
    exact Snapshot.mk.injEq .. ▸ ⟨h 0, h 1, h 2, h 3⟩

/-- The buffer check holds exactly when MEM_OK is 1 and BUF + 3 is an address (R54). -/
theorem bufferOk_iff (s : State) :
    bufferOk s = true ↔ s.memOk = true ∧ s.bufAddr % 2 ^ s.params.addrW + 3 ≤ 2 ^ s.params.addrW - 1 := by
  have hpos := Nat.two_pow_pos s.params.addrW
  unfold bufferOk rangeFits bufOperand reportSize
  generalize 2 ^ s.params.addrW = n at *
  rw [Bool.and_eq_true, decide_eq_true_eq]
  generalize s.bufAddr % n = b
  exact and_congr_right fun _ => by omega

end Sys2Proof.Machine
end

