-- ==== Sys2Proof/Laws/State.lean ====
section
/-! SUPPORT. One lemma per field of State per named update, each true by rfl. -/

namespace Sys2Proof.Machine

/-! ### setCur -/

@[simp] theorem State.setCur_cur (s : State) (v : Snapshot) : (s.setCur v).cur = v := rfl
@[simp] theorem State.setCur_dlv (s : State) (v : Snapshot) : (s.setCur v).dlv = s.dlv := rfl
@[simp] theorem State.setCur_first (s : State) (v : Snapshot) : (s.setCur v).first = s.first := rfl
@[simp] theorem State.setCur_initDone (s : State) (v : Snapshot) : (s.setCur v).initDone = s.initDone := rfl
@[simp] theorem State.setCur_fault (s : State) (v : Snapshot) : (s.setCur v).fault = s.fault := rfl
@[simp] theorem State.setCur_cfg (s : State) (v : Snapshot) : (s.setCur v).cfg = s.cfg := rfl
@[simp] theorem State.setCur_ie (s : State) (v : Snapshot) : (s.setCur v).ie = s.ie := rfl
@[simp] theorem State.setCur_mem (s : State) (v : Snapshot) : (s.setCur v).mem = s.mem := rfl
@[simp] theorem State.setCur_cmd (s : State) (v : Snapshot) : (s.setCur v).cmd = s.cmd := rfl
@[simp] theorem State.setCur_bufAddr (s : State) (v : Snapshot) : (s.setCur v).bufAddr = s.bufAddr := rfl
@[simp] theorem State.setCur_memOk (s : State) (v : Snapshot) : (s.setCur v).memOk = s.memOk := rfl
@[simp] theorem State.setCur_pin0 (s : State) (v : Snapshot) : (s.setCur v).pin0 = s.pin0 := rfl
@[simp] theorem State.setCur_pin1 (s : State) (v : Snapshot) : (s.setCur v).pin1 = s.pin1 := rfl
@[simp] theorem State.setCur_result (s : State) (v : Snapshot) : (s.setCur v).result = s.result := rfl
@[simp] theorem State.setCur_params (s : State) (v : Snapshot) : (s.setCur v).params = s.params := rfl
@[simp] theorem State.setCur_pending (s : State) (v : Snapshot) : (s.setCur v).pending = s.pending := rfl

/-! ### setDlv -/

@[simp] theorem State.setDlv_cur (s : State) (v : Snapshot) : (s.setDlv v).cur = s.cur := rfl
@[simp] theorem State.setDlv_dlv (s : State) (v : Snapshot) : (s.setDlv v).dlv = v := rfl
@[simp] theorem State.setDlv_first (s : State) (v : Snapshot) : (s.setDlv v).first = s.first := rfl
@[simp] theorem State.setDlv_initDone (s : State) (v : Snapshot) : (s.setDlv v).initDone = s.initDone := rfl
@[simp] theorem State.setDlv_fault (s : State) (v : Snapshot) : (s.setDlv v).fault = s.fault := rfl
@[simp] theorem State.setDlv_cfg (s : State) (v : Snapshot) : (s.setDlv v).cfg = s.cfg := rfl
@[simp] theorem State.setDlv_ie (s : State) (v : Snapshot) : (s.setDlv v).ie = s.ie := rfl
@[simp] theorem State.setDlv_mem (s : State) (v : Snapshot) : (s.setDlv v).mem = s.mem := rfl
@[simp] theorem State.setDlv_cmd (s : State) (v : Snapshot) : (s.setDlv v).cmd = s.cmd := rfl
@[simp] theorem State.setDlv_bufAddr (s : State) (v : Snapshot) : (s.setDlv v).bufAddr = s.bufAddr := rfl
@[simp] theorem State.setDlv_memOk (s : State) (v : Snapshot) : (s.setDlv v).memOk = s.memOk := rfl
@[simp] theorem State.setDlv_pin0 (s : State) (v : Snapshot) : (s.setDlv v).pin0 = s.pin0 := rfl
@[simp] theorem State.setDlv_pin1 (s : State) (v : Snapshot) : (s.setDlv v).pin1 = s.pin1 := rfl
@[simp] theorem State.setDlv_result (s : State) (v : Snapshot) : (s.setDlv v).result = s.result := rfl
@[simp] theorem State.setDlv_params (s : State) (v : Snapshot) : (s.setDlv v).params = s.params := rfl
@[simp] theorem State.setDlv_pending (s : State) (v : Snapshot) : (s.setDlv v).pending = s.pending := rfl

/-! ### setFirst -/

@[simp] theorem State.setFirst_cur (s : State) (b : Bool) : (s.setFirst b).cur = s.cur := rfl
@[simp] theorem State.setFirst_dlv (s : State) (b : Bool) : (s.setFirst b).dlv = s.dlv := rfl
@[simp] theorem State.setFirst_first (s : State) (b : Bool) : (s.setFirst b).first = b := rfl
@[simp] theorem State.setFirst_initDone (s : State) (b : Bool) : (s.setFirst b).initDone = s.initDone := rfl
@[simp] theorem State.setFirst_fault (s : State) (b : Bool) : (s.setFirst b).fault = s.fault := rfl
@[simp] theorem State.setFirst_cfg (s : State) (b : Bool) : (s.setFirst b).cfg = s.cfg := rfl
@[simp] theorem State.setFirst_ie (s : State) (b : Bool) : (s.setFirst b).ie = s.ie := rfl
@[simp] theorem State.setFirst_mem (s : State) (b : Bool) : (s.setFirst b).mem = s.mem := rfl
@[simp] theorem State.setFirst_cmd (s : State) (b : Bool) : (s.setFirst b).cmd = s.cmd := rfl
@[simp] theorem State.setFirst_bufAddr (s : State) (b : Bool) : (s.setFirst b).bufAddr = s.bufAddr := rfl
@[simp] theorem State.setFirst_memOk (s : State) (b : Bool) : (s.setFirst b).memOk = s.memOk := rfl
@[simp] theorem State.setFirst_pin0 (s : State) (b : Bool) : (s.setFirst b).pin0 = s.pin0 := rfl
@[simp] theorem State.setFirst_pin1 (s : State) (b : Bool) : (s.setFirst b).pin1 = s.pin1 := rfl
@[simp] theorem State.setFirst_result (s : State) (b : Bool) : (s.setFirst b).result = s.result := rfl
@[simp] theorem State.setFirst_params (s : State) (b : Bool) : (s.setFirst b).params = s.params := rfl
@[simp] theorem State.setFirst_pending (s : State) (b : Bool) : (s.setFirst b).pending = s.pending := rfl

/-! ### setInitDone -/

@[simp] theorem State.setInitDone_cur (s : State) (b : Bool) : (s.setInitDone b).cur = s.cur := rfl
@[simp] theorem State.setInitDone_dlv (s : State) (b : Bool) : (s.setInitDone b).dlv = s.dlv := rfl
@[simp] theorem State.setInitDone_first (s : State) (b : Bool) : (s.setInitDone b).first = s.first := rfl
@[simp] theorem State.setInitDone_initDone (s : State) (b : Bool) : (s.setInitDone b).initDone = b := rfl
@[simp] theorem State.setInitDone_fault (s : State) (b : Bool) : (s.setInitDone b).fault = s.fault := rfl
@[simp] theorem State.setInitDone_cfg (s : State) (b : Bool) : (s.setInitDone b).cfg = s.cfg := rfl
@[simp] theorem State.setInitDone_ie (s : State) (b : Bool) : (s.setInitDone b).ie = s.ie := rfl
@[simp] theorem State.setInitDone_mem (s : State) (b : Bool) : (s.setInitDone b).mem = s.mem := rfl
@[simp] theorem State.setInitDone_cmd (s : State) (b : Bool) : (s.setInitDone b).cmd = s.cmd := rfl
@[simp] theorem State.setInitDone_bufAddr (s : State) (b : Bool) : (s.setInitDone b).bufAddr = s.bufAddr := rfl
@[simp] theorem State.setInitDone_memOk (s : State) (b : Bool) : (s.setInitDone b).memOk = s.memOk := rfl
@[simp] theorem State.setInitDone_pin0 (s : State) (b : Bool) : (s.setInitDone b).pin0 = s.pin0 := rfl
@[simp] theorem State.setInitDone_pin1 (s : State) (b : Bool) : (s.setInitDone b).pin1 = s.pin1 := rfl
@[simp] theorem State.setInitDone_result (s : State) (b : Bool) : (s.setInitDone b).result = s.result := rfl
@[simp] theorem State.setInitDone_params (s : State) (b : Bool) : (s.setInitDone b).params = s.params := rfl
@[simp] theorem State.setInitDone_pending (s : State) (b : Bool) : (s.setInitDone b).pending = s.pending := rfl

/-! ### setFault -/

@[simp] theorem State.setFault_cur (s : State) (c : FaultCode) : (s.setFault c).cur = s.cur := rfl
@[simp] theorem State.setFault_dlv (s : State) (c : FaultCode) : (s.setFault c).dlv = s.dlv := rfl
@[simp] theorem State.setFault_first (s : State) (c : FaultCode) : (s.setFault c).first = s.first := rfl
@[simp] theorem State.setFault_initDone (s : State) (c : FaultCode) : (s.setFault c).initDone = s.initDone := rfl
@[simp] theorem State.setFault_fault (s : State) (c : FaultCode) : (s.setFault c).fault = c := rfl
@[simp] theorem State.setFault_cfg (s : State) (c : FaultCode) : (s.setFault c).cfg = s.cfg := rfl
@[simp] theorem State.setFault_ie (s : State) (c : FaultCode) : (s.setFault c).ie = s.ie := rfl
@[simp] theorem State.setFault_mem (s : State) (c : FaultCode) : (s.setFault c).mem = s.mem := rfl
@[simp] theorem State.setFault_cmd (s : State) (c : FaultCode) : (s.setFault c).cmd = s.cmd := rfl
@[simp] theorem State.setFault_bufAddr (s : State) (c : FaultCode) : (s.setFault c).bufAddr = s.bufAddr := rfl
@[simp] theorem State.setFault_memOk (s : State) (c : FaultCode) : (s.setFault c).memOk = s.memOk := rfl
@[simp] theorem State.setFault_pin0 (s : State) (c : FaultCode) : (s.setFault c).pin0 = s.pin0 := rfl
@[simp] theorem State.setFault_pin1 (s : State) (c : FaultCode) : (s.setFault c).pin1 = s.pin1 := rfl
@[simp] theorem State.setFault_result (s : State) (c : FaultCode) : (s.setFault c).result = s.result := rfl
@[simp] theorem State.setFault_params (s : State) (c : FaultCode) : (s.setFault c).params = s.params := rfl
@[simp] theorem State.setFault_pending (s : State) (c : FaultCode) : (s.setFault c).pending = s.pending := rfl

/-! ### setCfg -/

@[simp] theorem State.setCfg_cur (s : State) (c : LineConfigs) : (s.setCfg c).cur = s.cur := rfl
@[simp] theorem State.setCfg_dlv (s : State) (c : LineConfigs) : (s.setCfg c).dlv = s.dlv := rfl
@[simp] theorem State.setCfg_first (s : State) (c : LineConfigs) : (s.setCfg c).first = s.first := rfl
@[simp] theorem State.setCfg_initDone (s : State) (c : LineConfigs) : (s.setCfg c).initDone = s.initDone := rfl
@[simp] theorem State.setCfg_fault (s : State) (c : LineConfigs) : (s.setCfg c).fault = s.fault := rfl
@[simp] theorem State.setCfg_cfg (s : State) (c : LineConfigs) : (s.setCfg c).cfg = c := rfl
@[simp] theorem State.setCfg_ie (s : State) (c : LineConfigs) : (s.setCfg c).ie = s.ie := rfl
@[simp] theorem State.setCfg_mem (s : State) (c : LineConfigs) : (s.setCfg c).mem = s.mem := rfl
@[simp] theorem State.setCfg_cmd (s : State) (c : LineConfigs) : (s.setCfg c).cmd = s.cmd := rfl
@[simp] theorem State.setCfg_bufAddr (s : State) (c : LineConfigs) : (s.setCfg c).bufAddr = s.bufAddr := rfl
@[simp] theorem State.setCfg_memOk (s : State) (c : LineConfigs) : (s.setCfg c).memOk = s.memOk := rfl
@[simp] theorem State.setCfg_pin0 (s : State) (c : LineConfigs) : (s.setCfg c).pin0 = s.pin0 := rfl
@[simp] theorem State.setCfg_pin1 (s : State) (c : LineConfigs) : (s.setCfg c).pin1 = s.pin1 := rfl
@[simp] theorem State.setCfg_result (s : State) (c : LineConfigs) : (s.setCfg c).result = s.result := rfl
@[simp] theorem State.setCfg_params (s : State) (c : LineConfigs) : (s.setCfg c).params = s.params := rfl
@[simp] theorem State.setCfg_pending (s : State) (c : LineConfigs) : (s.setCfg c).pending = s.pending := rfl

/-! ### setIe -/

@[simp] theorem State.setIe_cur (s : State) (b : Bool) : (s.setIe b).cur = s.cur := rfl
@[simp] theorem State.setIe_dlv (s : State) (b : Bool) : (s.setIe b).dlv = s.dlv := rfl
@[simp] theorem State.setIe_first (s : State) (b : Bool) : (s.setIe b).first = s.first := rfl
@[simp] theorem State.setIe_initDone (s : State) (b : Bool) : (s.setIe b).initDone = s.initDone := rfl
@[simp] theorem State.setIe_fault (s : State) (b : Bool) : (s.setIe b).fault = s.fault := rfl
@[simp] theorem State.setIe_cfg (s : State) (b : Bool) : (s.setIe b).cfg = s.cfg := rfl
@[simp] theorem State.setIe_ie (s : State) (b : Bool) : (s.setIe b).ie = b := rfl
@[simp] theorem State.setIe_mem (s : State) (b : Bool) : (s.setIe b).mem = s.mem := rfl
@[simp] theorem State.setIe_cmd (s : State) (b : Bool) : (s.setIe b).cmd = s.cmd := rfl
@[simp] theorem State.setIe_bufAddr (s : State) (b : Bool) : (s.setIe b).bufAddr = s.bufAddr := rfl
@[simp] theorem State.setIe_memOk (s : State) (b : Bool) : (s.setIe b).memOk = s.memOk := rfl
@[simp] theorem State.setIe_pin0 (s : State) (b : Bool) : (s.setIe b).pin0 = s.pin0 := rfl
@[simp] theorem State.setIe_pin1 (s : State) (b : Bool) : (s.setIe b).pin1 = s.pin1 := rfl
@[simp] theorem State.setIe_result (s : State) (b : Bool) : (s.setIe b).result = s.result := rfl
@[simp] theorem State.setIe_params (s : State) (b : Bool) : (s.setIe b).params = s.params := rfl
@[simp] theorem State.setIe_pending (s : State) (b : Bool) : (s.setIe b).pending = s.pending := rfl

/-! ### setMem -/

@[simp] theorem State.setMem_cur (s : State) (m : Memory) : (s.setMem m).cur = s.cur := rfl
@[simp] theorem State.setMem_dlv (s : State) (m : Memory) : (s.setMem m).dlv = s.dlv := rfl
@[simp] theorem State.setMem_first (s : State) (m : Memory) : (s.setMem m).first = s.first := rfl
@[simp] theorem State.setMem_initDone (s : State) (m : Memory) : (s.setMem m).initDone = s.initDone := rfl
@[simp] theorem State.setMem_fault (s : State) (m : Memory) : (s.setMem m).fault = s.fault := rfl
@[simp] theorem State.setMem_cfg (s : State) (m : Memory) : (s.setMem m).cfg = s.cfg := rfl
@[simp] theorem State.setMem_ie (s : State) (m : Memory) : (s.setMem m).ie = s.ie := rfl
@[simp] theorem State.setMem_mem (s : State) (m : Memory) : (s.setMem m).mem = m := rfl
@[simp] theorem State.setMem_cmd (s : State) (m : Memory) : (s.setMem m).cmd = s.cmd := rfl
@[simp] theorem State.setMem_bufAddr (s : State) (m : Memory) : (s.setMem m).bufAddr = s.bufAddr := rfl
@[simp] theorem State.setMem_memOk (s : State) (m : Memory) : (s.setMem m).memOk = s.memOk := rfl
@[simp] theorem State.setMem_pin0 (s : State) (m : Memory) : (s.setMem m).pin0 = s.pin0 := rfl
@[simp] theorem State.setMem_pin1 (s : State) (m : Memory) : (s.setMem m).pin1 = s.pin1 := rfl
@[simp] theorem State.setMem_result (s : State) (m : Memory) : (s.setMem m).result = s.result := rfl
@[simp] theorem State.setMem_params (s : State) (m : Memory) : (s.setMem m).params = s.params := rfl
@[simp] theorem State.setMem_pending (s : State) (m : Memory) : (s.setMem m).pending = s.pending := rfl

/-! ### driveResult -/

@[simp] theorem State.driveResult_cur (s : State) (r : Option Bool) : (s.driveResult r).cur = s.cur := rfl
@[simp] theorem State.driveResult_dlv (s : State) (r : Option Bool) : (s.driveResult r).dlv = s.dlv := rfl
@[simp] theorem State.driveResult_first (s : State) (r : Option Bool) : (s.driveResult r).first = s.first := rfl
@[simp] theorem State.driveResult_initDone (s : State) (r : Option Bool) : (s.driveResult r).initDone = s.initDone := rfl
@[simp] theorem State.driveResult_fault (s : State) (r : Option Bool) : (s.driveResult r).fault = s.fault := rfl
@[simp] theorem State.driveResult_cfg (s : State) (r : Option Bool) : (s.driveResult r).cfg = s.cfg := rfl
@[simp] theorem State.driveResult_ie (s : State) (r : Option Bool) : (s.driveResult r).ie = s.ie := rfl
@[simp] theorem State.driveResult_mem (s : State) (r : Option Bool) : (s.driveResult r).mem = s.mem := rfl
@[simp] theorem State.driveResult_cmd (s : State) (r : Option Bool) : (s.driveResult r).cmd = s.cmd := rfl
@[simp] theorem State.driveResult_bufAddr (s : State) (r : Option Bool) : (s.driveResult r).bufAddr = s.bufAddr := rfl
@[simp] theorem State.driveResult_memOk (s : State) (r : Option Bool) : (s.driveResult r).memOk = s.memOk := rfl
@[simp] theorem State.driveResult_pin0 (s : State) (r : Option Bool) : (s.driveResult r).pin0 = s.pin0 := rfl
@[simp] theorem State.driveResult_pin1 (s : State) (r : Option Bool) : (s.driveResult r).pin1 = s.pin1 := rfl
@[simp] theorem State.driveResult_result (s : State) (r : Option Bool) : (s.driveResult r).result = r := rfl
@[simp] theorem State.driveResult_params (s : State) (r : Option Bool) : (s.driveResult r).params = s.params := rfl
@[simp] theorem State.driveResult_pending (s : State) (r : Option Bool) : (s.driveResult r).pending = s.pending := rfl

/-! ### present -/

@[simp] theorem State.present_cur (s : State) (r : Request) (rest : List Request) :
    (s.present r rest).cur = s.cur := rfl
@[simp] theorem State.present_dlv (s : State) (r : Request) (rest : List Request) :
    (s.present r rest).dlv = s.dlv := rfl
@[simp] theorem State.present_first (s : State) (r : Request) (rest : List Request) :
    (s.present r rest).first = s.first := rfl
@[simp] theorem State.present_initDone (s : State) (r : Request) (rest : List Request) :
    (s.present r rest).initDone = s.initDone := rfl
@[simp] theorem State.present_fault (s : State) (r : Request) (rest : List Request) :
    (s.present r rest).fault = s.fault := rfl
@[simp] theorem State.present_cfg (s : State) (r : Request) (rest : List Request) :
    (s.present r rest).cfg = s.cfg := rfl
@[simp] theorem State.present_ie (s : State) (r : Request) (rest : List Request) :
    (s.present r rest).ie = r.ie := rfl
@[simp] theorem State.present_mem (s : State) (r : Request) (rest : List Request) :
    (s.present r rest).mem = s.mem := rfl
@[simp] theorem State.present_cmd (s : State) (r : Request) (rest : List Request) :
    (s.present r rest).cmd = r.cmd := rfl
@[simp] theorem State.present_bufAddr (s : State) (r : Request) (rest : List Request) :
    (s.present r rest).bufAddr = r.bufAddr := rfl
@[simp] theorem State.present_memOk (s : State) (r : Request) (rest : List Request) :
    (s.present r rest).memOk = r.memOk := rfl
@[simp] theorem State.present_pin0 (s : State) (r : Request) (rest : List Request) :
    (s.present r rest).pin0 = r.pin0 := rfl
@[simp] theorem State.present_pin1 (s : State) (r : Request) (rest : List Request) :
    (s.present r rest).pin1 = r.pin1 := rfl
@[simp] theorem State.present_result (s : State) (r : Request) (rest : List Request) :
    (s.present r rest).result = s.result := rfl
@[simp] theorem State.present_params (s : State) (r : Request) (rest : List Request) :
    (s.present r rest).params = s.params := rfl
@[simp] theorem State.present_pending (s : State) (r : Request) (rest : List Request) :
    (s.present r rest).pending = rest := rfl

/-! ### request -/

@[simp] theorem State.request_cur (s : State) (w : Byte) : (s.request w).cur = s.cur := rfl
@[simp] theorem State.request_dlv (s : State) (w : Byte) : (s.request w).dlv = s.dlv := rfl
@[simp] theorem State.request_first (s : State) (w : Byte) : (s.request w).first = s.first := rfl
@[simp] theorem State.request_initDone (s : State) (w : Byte) : (s.request w).initDone = s.initDone := rfl
@[simp] theorem State.request_fault (s : State) (w : Byte) : (s.request w).fault = s.fault := rfl
@[simp] theorem State.request_cfg (s : State) (w : Byte) : (s.request w).cfg = s.cfg := rfl
@[simp] theorem State.request_ie (s : State) (w : Byte) : (s.request w).ie = s.ie := rfl
@[simp] theorem State.request_mem (s : State) (w : Byte) : (s.request w).mem = s.mem := rfl
@[simp] theorem State.request_cmd (s : State) (w : Byte) : (s.request w).cmd = s.cmd := rfl
@[simp] theorem State.request_bufAddr (s : State) (w : Byte) : (s.request w).bufAddr = s.bufAddr := rfl
@[simp] theorem State.request_memOk (s : State) (w : Byte) : (s.request w).memOk = s.memOk := rfl
@[simp] theorem State.request_pin0 (s : State) (w : Byte) : (s.request w).pin0 = s.pin0 := rfl
@[simp] theorem State.request_pin1 (s : State) (w : Byte) : (s.request w).pin1 = s.pin1 := rfl
@[simp] theorem State.request_result (s : State) (w : Byte) : (s.request w).result = s.result := rfl
@[simp] theorem State.request_params (s : State) (w : Byte) : (s.request w).params = s.params := rfl
@[simp] theorem State.request_pending (s : State) (w : Byte) : (s.request w).pending = s.requestOf w :: s.pending := rfl

end Sys2Proof.Machine
end

