-- ==== Sys2Proof/Laws/Exec.lean ====
section
/-! SUPPORT. What the shared operations behind every command can do, said once: the precheck, raising a fault, one command
and one step. -/

namespace Sys2Proof.Machine

theorem raiseFault_next {c : FaultCode} {s t : State} (h : raiseFault c s = .next t) :
    t = { s with fault := c, result := none } := by
  cases h; rfl

theorem whileRunning_next {s t : State} {body : Host.Outcome State Fault Refusal}
    (h : whileRunning s body = .next t) : s.fault = .noFault ∧ body = .next t := by
  unfold whileRunning at h
  split at h
  · exact ⟨‹_›, h⟩
  · cases h

theorem whileRunning_of_running {s : State} (h : s.fault = .noFault) (body : Host.Outcome State Fault Refusal) :
    whileRunning s body = body := by
  simp [whileRunning, h]

theorem whileRunning_of_stopped {s : State} (h : s.fault ≠ .noFault) (body : Host.Outcome State Fault Refusal) :
    whileRunning s body = .fault (.stopped s.fault) := by
  simp [whileRunning, h]

theorem afterInit_next {s t : State} {body : Host.Outcome State Fault Refusal} (h : afterInit s body = .next t) :
    s.fault = .noFault ∧
      ((s.initDone = true ∧ body = .next t) ∨
        (s.initDone = false ∧ t = { s with fault := .notInit, result := none })) := by
  obtain ⟨hf, hb⟩ := whileRunning_next h
  refine ⟨hf, ?_⟩
  split at hb
  · exact .inl ⟨‹_›, hb⟩
  · exact .inr ⟨Bool.eq_false_iff.2 ‹_›, raiseFault_next hb⟩

theorem afterInit_of_ready {s : State} (hf : s.fault = .noFault) (hd : s.initDone = true)
    (body : Host.Outcome State Fault Refusal) : afterInit s body = body := by
  simp [afterInit, whileRunning, hf, hd]

/-- Everything a command that answers a next state can have done: it was turned away with a fault, writing nothing else, or it
was INIT, UPDATE, HASCHG or a BUILD with its own effect. -/
theorem exec_next_cases {i : Instr} {s t : State} (h : exec i s = .next t) :
    s.fault = .noFault ∧
      ((∃ c, c ≠ .noFault ∧ t = { s with fault := c, result := none } ∧
          ((c = .notInit ∧ i ≠ .init ∧ s.initDone = false) ∨
            (c = .badBuffer ∧ i = .build true ∧ s.initDone = true ∧ bufferOk s = false))) ∨
        (i = .init ∧
          t = { s with
            cfg := allInputsPulledUp, cur := decodeSample s.params.lineMap (~~~s.pin0) (~~~s.pin1)
            first := true, initDone := true, result := none }) ∨
        (i = .update ∧ s.initDone = true ∧
          t = { s with cur := decodeSample s.params.lineMap (~~~s.pin0) (~~~s.pin1), result := none }) ∨
        (i = .haschg ∧ s.initDone = true ∧ t = { s with result := some (changed s) }) ∨
        (i = .build false ∧ s.initDone = true ∧ t = { s with dlv := s.cur, first := false, result := none }) ∨
        (i = .build true ∧ s.initDone = true ∧ bufferOk s = true ∧
          t = { s with
            dlv := s.cur, first := false, result := none, mem := s.mem.writeReport (bufOperand s) s.cur })) := by
  cases i with
  | init =>
    obtain ⟨hf, hb⟩ := whileRunning_next h
    cases hb
    exact ⟨hf, .inr (.inl ⟨rfl, rfl⟩)⟩
  | update =>
    obtain ⟨hf, ⟨hd, hb⟩ | ⟨hd, rfl⟩⟩ := afterInit_next h
    · cases hb
      exact ⟨hf, .inr (.inr (.inl ⟨rfl, hd, rfl⟩))⟩
    · exact ⟨hf, .inl ⟨_, by decide, rfl, .inl ⟨rfl, by decide, hd⟩⟩⟩
  | haschg =>
    obtain ⟨hf, ⟨hd, hb⟩ | ⟨hd, rfl⟩⟩ := afterInit_next h
    · cases hb
      exact ⟨hf, .inr (.inr (.inr (.inl ⟨rfl, hd, rfl⟩)))⟩
    · exact ⟨hf, .inl ⟨_, by decide, rfl, .inl ⟨rfl, by decide, hd⟩⟩⟩
  | build present =>
    obtain ⟨hf, ⟨hd, hb⟩ | ⟨hd, rfl⟩⟩ := afterInit_next h
    · cases present with
      | false =>
        cases hb
        exact ⟨hf, .inr (.inr (.inr (.inr (.inl ⟨rfl, hd, rfl⟩))))⟩
      | true =>
        simp only [if_true] at hb
        split at hb
        · cases hb
          exact ⟨hf, .inr (.inr (.inr (.inr (.inr ⟨rfl, hd, ‹_›, rfl⟩))))⟩
        · exact ⟨hf, .inl ⟨_, by decide, raiseFault_next hb, .inr ⟨rfl, rfl, hd, Bool.eq_false_iff.2 ‹_›⟩⟩⟩
    · exact ⟨hf, .inl ⟨_, by decide, rfl, .inl ⟨rfl, by simp, hd⟩⟩⟩

/-- Everything a step that answers a next state can have done: it waited, it raised RESERVED_CMD, or it ran a command. -/
theorem step_next_cases {s s' : State} (h : step s = .next s') :
    s.fault = .noFault ∧
      ((s.pending = [] ∧ s' = s) ∨
        ∃ r rest, s.pending = r :: rest ∧
          ((∃ e, decode r.cmd = .error e ∧
              s' = { s.present r rest with fault := .reservedCmd, result := none }) ∨
            ∃ i, decode r.cmd = .ok i ∧ exec i (s.present r rest) = .next s')) := by
  unfold step nextRequest at h
  rcases hp : s.pending with _ | ⟨r, rest⟩
  · rw [hp] at h
    obtain ⟨hf, hb⟩ := whileRunning_next h
    cases hb
    exact ⟨hf, .inl ⟨rfl, rfl⟩⟩
  · rw [hp] at h
    simp only [runCommand, State.present_cmd] at h
    rcases hd : decode r.cmd with e | i
    · rw [hd] at h
      obtain ⟨hf, hb⟩ := whileRunning_next h
      exact ⟨hf, .inr ⟨r, rest, rfl, .inl ⟨e, hd, raiseFault_next hb⟩⟩⟩
    · rw [hd] at h
      exact ⟨(exec_next_cases h).1, .inr ⟨r, rest, rfl, .inr ⟨i, hd, h⟩⟩⟩

theorem whileRunning_ne_refused {s : State} {body : Host.Outcome State Fault Refusal} {r : Refusal}
    (h : body ≠ .refused r) : whileRunning s body ≠ .refused r := by
  unfold whileRunning
  split
  · exact h
  · simp

theorem afterInit_ne_refused {s : State} {body : Host.Outcome State Fault Refusal} {r : Refusal}
    (h : body ≠ .refused r) : afterInit s body ≠ .refused r := by
  refine whileRunning_ne_refused ?_
  split
  · exact h
  · simp [raiseFault]

/-- No command answers a refusal: every row of the opcode table has its meaning. -/
theorem exec_ne_refused (i : Instr) (s : State) (r : Refusal) : exec i s ≠ .refused r := by
  cases i with
  | init => exact whileRunning_ne_refused (by simp)
  | update => exact afterInit_ne_refused (by simp)
  | haschg => exact afterInit_ne_refused (by simp)
  | build present =>
    refine afterInit_ne_refused ?_
    split
    · split <;> simp [raiseFault]
    · simp

end Sys2Proof.Machine
end

