-- ==== Sys2Proof/Laws/Memory.lean ====
section
/-! SUPPORT. What the operations on host memory do: read after write, everything else unchanged, the canonical form kept, and
no address but those written listed. -/

namespace Sys2Proof.Machine

theorem Memory.read_write_self (m : Memory) (a : Nat) (v : Byte) : (m.write a v).read a = some v := by
  induction m with
  | nil => simp [Memory.write, Memory.read]
  | cons c rest ih =>
    obtain ⟨b, w⟩ := c
    simp only [Memory.write]
    split
    · simp [Memory.read]
    · split
      · simp [Memory.read]
      · simp [Memory.read, *]

theorem Memory.read_write_of_ne (m : Memory) {a x : Nat} (v : Byte) (h : x ≠ a) :
    (m.write a v).read x = m.read x := by
  induction m with
  | nil => simp [Memory.write, Memory.read, h]
  | cons c rest ih =>
    obtain ⟨b, w⟩ := c
    simp only [Memory.write]
    split
    · simp [Memory.read, h]
    · split
      · subst_vars
        simp [Memory.read, h]
      · simp [Memory.read, ih]

theorem Memory.mem_write {m : Memory} {a : Nat} {v : Byte} {c : Host.Cell} (h : c ∈ m.write a v) :
    c = (a, v) ∨ c ∈ m := by
  induction m with
  | nil => simpa [Memory.write] using h
  | cons d rest ih =>
    obtain ⟨b, w⟩ := d
    simp only [Memory.write] at h
    split at h
    · simpa using h
    · split at h
      · rcases List.mem_cons.1 h with h | h
        · exact .inl h
        · exact .inr (List.mem_cons_of_mem _ h)
      · rcases List.mem_cons.1 h with h | h
        · exact .inr (h ▸ List.mem_cons_self ..)
        · exact (ih h).imp_right (List.mem_cons_of_mem _)

theorem Memory.write_wf {m : Memory} (h : m.wf) (a : Nat) (v : Byte) : (m.write a v).wf := by
  induction m with
  | nil => simp [Memory.write]
  | cons c rest ih =>
    obtain ⟨b, w⟩ := c
    obtain ⟨hb, hrest⟩ := List.pairwise_cons.1 h
    simp only [Memory.write]
    split
    · refine List.pairwise_cons.2 ⟨fun d hd => ?_, h⟩
      rcases List.mem_cons.1 hd with rfl | hd
      · assumption
      · exact Nat.lt_trans ‹a < b› (hb d hd)
    · split
      · subst_vars
        exact List.pairwise_cons.2 ⟨hb, hrest⟩
      · refine List.pairwise_cons.2 ⟨fun d hd => ?_, ih hrest⟩
        rcases Memory.mem_write hd with rfl | hd
        · show b < a
          omega
        · exact hb d hd

/-! ### The four writes of a report -/

theorem Memory.writeReport_eq (m : Memory) (buf : Nat) (v : Snapshot) :
    m.writeReport buf v =
      (((m.write buf v.x).write (buf + 1) v.y).write (buf + 2) v.btnLo).write (buf + 3) v.btnHi := rfl

theorem Memory.read_writeReport_byte (m : Memory) (buf : Nat) (v : Snapshot) (k : Fin 4) :
    (m.writeReport buf v).read (buf + k.val) = some (v.byte k) := by
  have h (x y : Nat) (hxy : x ≠ y) (n : Memory) (w : Byte) := Memory.read_write_of_ne n w hxy
  rw [Memory.writeReport_eq]
  match k with
  | 0 =>
    show Memory.read buf _ = some v.x
    rw [h _ _ (by omega), h _ _ (by omega), h _ _ (by omega), Memory.read_write_self]
  | 1 =>
    show Memory.read (buf + 1) _ = some v.y
    rw [h _ _ (by omega), h _ _ (by omega), Memory.read_write_self]
  | 2 =>
    show Memory.read (buf + 2) _ = some v.btnLo
    rw [h _ _ (by omega), Memory.read_write_self]
  | 3 => exact Memory.read_write_self ..

theorem Memory.read_writeReport_outside (m : Memory) {buf x : Nat} (v : Snapshot)
    (h : x < buf ∨ buf + reportSize ≤ x) : (m.writeReport buf v).read x = m.read x := by
  simp only [reportSize] at h
  rw [Memory.writeReport_eq, Memory.read_write_of_ne _ _ (by omega), Memory.read_write_of_ne _ _ (by omega),
    Memory.read_write_of_ne _ _ (by omega), Memory.read_write_of_ne _ _ (by omega)]

theorem Memory.writeReport_wf {m : Memory} (h : m.wf) (buf : Nat) (v : Snapshot) : (m.writeReport buf v).wf :=
  Memory.write_wf (Memory.write_wf (Memory.write_wf (Memory.write_wf h ..) ..) ..) ..

theorem Memory.mem_writeReport {m : Memory} {buf : Nat} {v : Snapshot} {c : Host.Cell}
    (h : c ∈ m.writeReport buf v) : (buf ≤ c.1 ∧ c.1 < buf + reportSize) ∨ c ∈ m := by
  simp only [reportSize]
  rw [Memory.writeReport_eq] at h
  rcases Memory.mem_write h with rfl | h
  · left; dsimp only; omega
  rcases Memory.mem_write h with rfl | h
  · left; dsimp only; omega
  rcases Memory.mem_write h with rfl | h
  · left; dsimp only; omega
  rcases Memory.mem_write h with rfl | h
  · left; dsimp only; omega
  exact .inr h

end Sys2Proof.Machine
end

