-- ==== Sys2Proof/Laws/PerInstr.lean ====
section
/-! SUPPORT. What holds of every instruction as syntax, one lemma per constructor. -/

namespace Sys2Proof.Laws.EncodesLegalWord

/-- An instruction's word is one of the five words R76 lists, its RES field is 0, and B is 1 only with BUILD (R71, R73). -/
def Statement (i : Instr) : Prop :=
  encode i ∈ [0x00#8, 0x01#8, 0x02#8, 0x03#8, 0x07#8] ∧ fieldsOfWord (encode i) = fieldsOfInstr i ∧
    (fieldsOfInstr i).wellFormed = true

theorem init : Statement .init := by unfold Statement; decide

theorem update : Statement .update := by unfold Statement; decide

theorem haschg : Statement .haschg := by unfold Statement; decide

theorem build (present : Bool) : Statement (.build present) := by
  cases present <;> (unfold Statement; decide)

end Sys2Proof.Laws.EncodesLegalWord
end

