-- ==== Sys2Proof/Laws/Run.lean ====
section
/-! SUPPORT. Runs of the machine, one step at a time, and the host's requests issued one by one. -/

namespace Sys2Proof.Machine

theorem coreRun_succ_of_next (M : Host.Core) {s t : M.State} (h : M.step s = .next t) (k : Nat) :
    M.run (k + 1) s = M.run k t := by
  rw [Host.Core.run, h]

theorem coreRun_succ_of_fault (M : Host.Core) {s : M.State} {r : M.Fault} (h : M.step s = .fault r) (k : Nat) :
    M.run (k + 1) s = .fault r := by
  rw [Host.Core.run, h]

@[simp] theorem run_zero (s : State) : Host.Core.run Sys2Proof.core 0 s = .next s := rfl

theorem run_succ_of_next {s t : State} (h : step s = .next t) (k : Nat) :
    Host.Core.run Sys2Proof.core (k + 1) s = Host.Core.run Sys2Proof.core k t :=
  coreRun_succ_of_next Sys2Proof.core h k

theorem run_succ_of_fault {s : State} {r : Fault} (h : step s = .fault r) (k : Nat) :
    Host.Core.run Sys2Proof.core (k + 1) s = .fault r :=
  coreRun_succ_of_fault Sys2Proof.core h k

/-- A step on the host's next request runs its command, where its word is legal. -/
theorem step_of_request {s : State} {r : Request} {rest : List Request} {i : Instr} (hp : s.pending = r :: rest)
    (hd : decode r.cmd = .ok i) : step s = exec i (s.present r rest) := by
  simp [step, nextRequest, hp, runCommand, hd]

/-- The word placed by `withFetchWord` is the very next command, with the other ports as they stood. -/
theorem step_withFetchWord {s : State} {nbits w : Nat} {i : Instr} (h : decode (cmdOfBits nbits w) = .ok i) :
    step (s.withFetchWord nbits w) = exec i { s with cmd := cmdOfBits nbits w } := by
  have hp : (s.withFetchWord nbits w).pending = s.requestOf (cmdOfBits nbits w) :: s.pending := rfl
  rw [step_of_request hp h]
  rfl

/-- Issuing the request of a command runs it, and leaves the requests behind it as they were. -/
theorem issue_of_decode {s : State} {r : Request} {i : Instr} (hd : decode r.cmd = .ok i) :
    issue r s = exec i (s.present r s.pending) :=
  step_of_request (s := { s with pending := r :: s.pending }) rfl hd

end Sys2Proof.Machine
end

