-- ==== Sys2Proof/Tests/Slice0.lean ====
section
/-! SUPPORT. Tests: the spec's own vectors (spec/95_test_vectors.md), the well-formedness smoke tests, words written out from
the spec's encoding, and for each obligation with hypotheses a witness that meets them. -/

namespace Sys2Proof.Tests

open Sys2Proof.Machine

/-! ### Small states -/

/-- The reference instance PREF (D6) and ADDR_W = 16, as the conventions of spec/95_test_vectors.md have them. -/
def pref : Params := { lineMap := { table := LineTable.reference }, addrW := 16, descLen := 0 }

/-- The reset state under PREF. -/
def fresh : State := { State.reset with params := pref }

/-- A running block after INIT: CUR = [128, 0, 0, 0], FIRST = 1, the lines configured, and BUF_ADDR = 0x0200 writable. -/
def ready : State :=
  { fresh with cur := ⟨128, 0, 0, 0⟩, first := true, initDone := true, cfg := allInputsPulledUp, bufAddr := 0x0200
               memOk := true, pin0 := 0x9F, pin1 := 0xAA }

/-- A block whose FAULT is NOT_INIT. -/
def stopped : State := { fresh with fault := .notInit }

/-- A request with command word `w`, pin levels `p0` and `p1`, and the writable buffer at 0x0200. -/
def req (w p0 p1 : Byte) : Request := ⟨w, 0x0200, true, p0, p1, true⟩

/-- The next state, where there is one. -/
def nextOf (o : Host.Outcome State Fault Refusal) : Option State :=
  match o with
  | .next s => some s
  | .fault _ => none
  | .refused _ => none

/-! ### Well-formedness -/

theorem test_reference_table_is_legal : LineTable.reference.wellFormed = true := by decide

theorem test_reserved_bits_refused : CmdFields.wellFormed ⟨0b00001, false, 0b00⟩ = false := by decide

theorem test_buffer_with_init_refused : CmdFields.wellFormed ⟨0, true, 0b00⟩ = false := by decide

theorem test_buffer_with_update_refused : CmdFields.wellFormed ⟨0, true, 0b01⟩ = false := by decide

theorem test_buffer_with_haschg_refused : CmdFields.wellFormed ⟨0, true, 0b10⟩ = false := by decide

theorem test_buffer_with_build_accepted : CmdFields.wellFormed ⟨0, true, 0b11⟩ = true := by decide

theorem test_down_on_up_refused :
    { LineTable.reference with down := 5 }.sixDistinct = false ∧
      { LineTable.reference with down := 5 }.wellFormed = false := by decide

theorem test_unordered_button_set_refused :
    { LineTable.reference with btnG0Low := 1, btnG0High := 0 }.setOrdered = false ∧
      { LineTable.reference with btnG0Low := 1, btnG0High := 0 }.wellFormed = false := by decide

theorem test_button_on_unwired_line_refused :
    { LineTable.reference with btnMap := LineTable.reference.btnMap.set 0 ⟨.g0, 2⟩ }.mapsToButtonLines = false ∧
      { LineTable.reference with btnMap := LineTable.reference.btnMap.set 0 ⟨.g0, 2⟩ }.wellFormed = false := by decide

theorem test_two_buttons_on_one_line_refused :
    { LineTable.reference with btnMap := LineTable.reference.btnMap.set 0 ⟨.g1, 7⟩ }.mapInjective = false ∧
      { LineTable.reference with btnMap := LineTable.reference.btnMap.set 0 ⟨.g1, 7⟩ }.wellFormed = false := by decide

/-! ### Decode (spec/95_test_vectors.md 2.1; the words bit by bit from R71 and R72: RES, B, OP) -/

theorem test_decode_init : decode 0b00000_0_00 = .ok .init := by decide

theorem test_decode_update : decode 0b00000_0_01 = .ok .update := by decide

theorem test_decode_haschg : decode 0b00000_0_10 = .ok .haschg := by decide

theorem test_decode_build_absent : decode 0b00000_0_11 = .ok (.build false) := by decide

theorem test_decode_build_present : decode 0b00000_1_11 = .ok (.build true) := by decide

theorem test_decode_illegal_words :
    decode 0x04 = .error .bufferWithoutBuild ∧ decode 0x05 = .error .bufferWithoutBuild ∧
      decode 0x06 = .error .bufferWithoutBuild ∧ decode 0x08 = .error .reservedBits ∧
      decode 0x83 = .error .reservedBits ∧ decode 0xFF = .error .reservedBits := by decide

theorem test_encode_build_present : encode (.build true) = 0x07 := by decide

theorem test_decode_table_word : decodeTableWord 8 3 = some (.build false) ∧ decodeTableWord 8 4 = none := by decide

theorem test_assemble_build_at : assemble (.buildAt 0x100) = (0x07, some 0x100) := by decide

/-! ### SAMPLE and DECODE (spec/95_test_vectors.md 2.2, 2.4) -/

theorem test_sample : sample { fresh with pin0 := 0x5F, pin1 := 0x3C } = (0xA0, 0xC3) := by decide

theorem test_decode_up_down : decodeSample pref.lineMap (~~~0xCF) (~~~0xFF) = ⟨128, 255, 0x00, 0x00⟩ := by decide

theorem test_decode_left_right : decodeSample pref.lineMap (~~~0x3F) (~~~0xFF) = ⟨255, 128, 0x00, 0x00⟩ := by decide

theorem test_decode_up_right_buttons : decodeSample pref.lineMap (~~~0x5F) (~~~0x3C) = ⟨255, 0, 0x03, 0x03⟩ := by decide

theorem test_decode_every_line_low : decodeSample pref.lineMap (~~~0x00) (~~~0x00) = ⟨255, 255, 0x3F, 0x03⟩ := by decide

theorem test_decode_unread_lines : decodeSample pref.lineMap (~~~0xF0) (~~~0xFF) = ⟨128, 128, 0x00, 0x00⟩ := by decide

theorem test_descriptor_button_of_b6 :
    descriptorButton (decodeSample pref.lineMap (~~~0xFF) (~~~0xBF)) 8 = true := by decide

/-! ### INIT and UPDATE (spec/95_test_vectors.md 2.5, 2.6) -/

/-- Reset state, IE = 0, all lines released. -/
theorem test_init_after_reset :
    (nextOf (exec .init { fresh with ie := false })).map (fun t => (t.cur, t.first, t.initDone, t.ie)) =
      some (⟨128, 128, 0x00, 0x00⟩, true, true, false) := by decide

/-- A repeated INIT keeps DLV and sets FIRST again. -/
theorem test_init_again :
    (nextOf (exec .init { ready with first := false, dlv := ⟨128, 0, 0, 0⟩ })).map (fun t => (t.dlv, t.first)) =
      some (⟨128, 0, 0x00, 0x00⟩, true) := by decide

theorem test_update_overwrites_cur : (nextOf (exec .update ready)).map State.cur = some ⟨0, 0, 0x15, 0x01⟩ := by decide

theorem test_update_before_init :
    (nextOf (exec .update fresh)).map (fun t => (t.fault, t.cur, t.initDone)) = some (.notInit, fresh.cur, false) := by decide

/-! ### HASCHG and BUILD (spec/95_test_vectors.md 2.7, 2.8) -/

/-- One bit of byte 3 differs. -/
theorem test_haschg_one_bit :
    (nextOf (exec .haschg { ready with first := false, cur := ⟨128, 128, 0, 0⟩, dlv := ⟨128, 128, 0, 1⟩ })).map State.result =
      some (some true) := by decide

theorem test_haschg_equal :
    (nextOf (exec .haschg { ready with first := false, dlv := ready.cur })).map State.result = some (some false) := by decide

/-- `BUILD @0200`. -/
theorem test_build_stores_report :
    (nextOf (exec (.build true) ready)).map (fun t => (t.mem, t.dlv, t.first)) =
      some ([(0x0200, 0x80), (0x0201, 0x00), (0x0202, 0x00), (0x0203, 0x00)], ⟨128, 0, 0, 0⟩, false) := by decide

/-- `BUILD @FFFE`. -/
theorem test_build_wraps :
    (nextOf (exec (.build true) { ready with bufAddr := 0xFFFE })).map (fun t => (t.fault, t.mem, t.first)) =
      some (.badBuffer, [], true) := by decide

/-! ### Steps -/

/-- Word 0x04 before INIT: RESERVED_CMD, not NOT_INIT. -/
theorem test_illegal_word_before_init :
    (nextOf (step (fresh.withFetchWord 8 0x04))).map State.fault = some .reservedCmd := by decide

/-- The command placed by `withFetchWord` runs at once from reset. -/
theorem test_fetch_word_runs_init :
    (nextOf (step (State.reset.withFetchWord 8 0x00))).map (fun t => (t.initDone, t.pending.length)) = some (true, 0) := by
  decide

theorem test_stopped_takes_no_step : nextOf (step (stopped.withFetchWord 8 0x00)) = none := by decide

/-! ### Witnesses: each obligation's hypotheses are met together -/

theorem witness_DecodeAndEncodeAgree :
    (Instr.build true).wellFormed = true ∧ decode 0x07 = .ok (.build true) := by decide

theorem witness_IllegalFieldsAreRefusedByName :
    (0xFF#8).extractLsb' 3 5 ≠ 0 ∧ (0x06#8).extractLsb' 3 5 = 0 ∧ (0x06#8).getLsbD 2 = true ∧
      (0x06#8).extractLsb' 0 2 ≠ 3 := by decide

theorem witness_OnlyFiveWordsAreLegal :
    { ready with cmd := 0x00 }.cmd = 0x00 ∧ { ready with cmd := 0x01 }.cmd = 0x01 ∧ { ready with cmd := 0x02 }.cmd = 0x02 ∧
      { ready with cmd := 0x03 }.cmd = 0x03 ∧ { ready with cmd := 0x07 }.cmd = 0x07 ∧ { ready with cmd := 0x04 }.cmd ∉ [0x00#8, 0x01#8, 0x02#8, 0x03#8, 0x07#8] ∧
      { ready with cmd := 0x04 }.fault = .noFault := by decide

theorem witness_StepRunsTheDecodedCommand :
    (ready.request 0x01).pending = ready.requestOf 0x01 :: [] ∧ decode (ready.requestOf 0x01).cmd = .ok .update := by decide

theorem witness_BlockWaitsForTheNextRequest : ready.pending = [] ∧ ready.fault = .noFault := by decide

theorem witness_StoppedBlockTakesNoStep : stopped.fault ≠ .noFault := by decide

theorem witness_RunningBlockCompletesEveryStep : ready.fault = .noFault := by decide

/-- One state for each clause: a stopped block, an illegal word and a BUILD before INIT, a BUILD without MEM_OK after it, INIT. -/
theorem witness_FaultPriorityFollowsThePrecheck :
    let bad := { ready.requestOf 0x07 with memOk := false }
    (stopped.request 0x00).fault ≠ .noFault ∧
      (fresh.fault = .noFault ∧ fresh.initDone = false ∧ (fresh.request 0x04).pending = fresh.requestOf 0x04 :: [] ∧
        decode (fresh.requestOf 0x04).cmd = .error .bufferWithoutBuild ∧
        decode (fresh.requestOf 0x07).cmd = .ok (.build true) ∧ Instr.build true ≠ .init) ∧
      ({ ready with pending := [bad] }.fault = .noFault ∧ decode bad.cmd = .ok (.build true) ∧
        { ready with pending := [bad] }.initDone = true ∧ bad.memOk = false) ∧
      decode (fresh.requestOf 0x00).cmd = .ok .init := by decide

theorem witness_FaultsArePreciseAndFinal :
    (fresh.request 0x01).fault = .noFault ∧ ∃ t, step (fresh.request 0x01) = .next t ∧ t.fault ≠ .noFault :=
  ⟨by decide, _, rfl, by decide⟩

theorem witness_SampleInvertsBothGroups : 0 < 8 ∧ 7 < 8 := by decide

theorem witness_ButtonBitsFollowTheirLines : (5 : Fin 8).val < 6 ∧ buttonLine pref.lineMap 5 = buttonLine pref.lineMap 5 := by
  decide

theorem witness_VerticalAxisTable :
    lineBit 0x00 0x00 lineUp = false ∧ lineBit 0x20 0x00 lineUp = true ∧
      lineBit 0x10 0x00 (lineDown pref.lineMap) = true ∧ lineBit 0x20 0x00 (lineDown pref.lineMap) = false := by decide

theorem witness_HorizontalAxisTable :
    lineBit 0x40 0x00 (lineLeft pref.lineMap) = true ∧ lineBit 0x80 0x00 (lineLeft pref.lineMap) = false ∧
      lineBit 0x80 0x00 (lineRight pref.lineMap) = true ∧ lineBit 0x40 0x00 (lineRight pref.lineMap) = false := by decide

/-- The lines G0.0..G0.3 are not read under PREF, so 0x00 and 0x0F agree on every line that is. -/
theorem witness_DecodeImageIsEveryLegalSnapshot :
    (∀ l, l ∈ [lineUp, lineDown pref.lineMap, lineLeft pref.lineMap, lineRight pref.lineMap] →
        lineBit 0x00 0x55 l = lineBit 0x0F 0x55 l) ∧
      ∀ i, lineBit 0x00 0x55 (buttonLine pref.lineMap i) = lineBit 0x0F 0x55 (buttonLine pref.lineMap i) := by decide

theorem witness_UpLineAloneGivesItsReport :
    { ready with pin0 := 0xDF, pin1 := 0xFF }.pin0 = 0xDF ∧ { ready with pin0 := 0xDF, pin1 := 0xFF }.pin1 = 0xFF := by decide

theorem witness_DescriptorButtonsOfAReport : (6 : Fin 16) = 6 ∧ 10 ≤ (15 : Fin 16).val := by decide

theorem witness_InitConfiguresAndSamples : fresh.fault = .noFault := by decide

theorem witness_UpdateOverwritesCurAlone : ready.fault = .noFault ∧ ready.initDone = true := by decide

/-- Two states with unlike histories and the same levels. -/
theorem witness_UpdateKeepsNoHistory :
    let other := { ready with cur := ⟨255, 255, 0x3F, 0x03⟩, dlv := ⟨0, 0, 0, 0⟩, first := false }
    ready.fault = .noFault ∧ ready.initDone = true ∧ other.fault = .noFault ∧ other.initDone = true ∧
      ready.params.lineMap = other.params.lineMap ∧ ready.pin0 = other.pin0 ∧ ready.pin1 = other.pin1 := by decide

/-- 0x9F and 0x90 differ only in G0.0..G0.3, which PREF does not read. -/
theorem witness_UnreadLinesHaveNoEffect :
    ready.fault = .noFault ∧ ready.initDone = true ∧
      (∀ l, l ∈ [lineUp, lineDown ready.params.lineMap, lineLeft ready.params.lineMap, lineRight ready.params.lineMap] →
        lineBit ready.pin0 ready.pin1 l = lineBit 0x90 0xAA l) ∧
      ∀ i, lineBit ready.pin0 ready.pin1 (buttonLine ready.params.lineMap i) =
        lineBit 0x90 0xAA (buttonLine ready.params.lineMap i) := by decide

theorem witness_HaschgDrivesResultAlone : ready.fault = .noFault ∧ ready.initDone = true := by decide

theorem witness_HaschgSeesAnyDifferingBit :
    { ready with first := false }.fault = .noFault ∧ { ready with first := false }.initDone = true ∧
      { ready with first := false }.first = false := by decide

theorem witness_HaschgIsReadOnlyAndRepeatable : ready.fault = .noFault ∧ ready.initDone = true := by decide

theorem witness_ForcedChangeLastsUntilBuild :
    let s := { fresh with pending := [req 0x01 0xDF 0xFF, req 0x02 0 0] ++ [req 0x02 0 0] }
    s.fault = .noFault ∧ (∃ t, exec .init s = .next t ∧ t.pending = [req 0x01 0xDF 0xFF, req 0x02 0 0] ++ [req 0x02 0 0]) ∧
      decode (req 0x01 0xDF 0xFF).cmd = .ok .update ∧ decode (req 0x02 0 0).cmd = .ok .haschg :=
  ⟨by decide, ⟨_, rfl, rfl⟩, by decide, by decide⟩

/-- No UPDATE after the BUILD. -/
theorem witness_HaschgAfterBuildComparesWithDelivered_no_update :
    let s := { ready with pending := [req 0x02 0 0] ++ [req 0x02 0 0] }
    ∃ t, exec (.build false) s = .next t ∧ t.fault = .noFault ∧ decode (req 0x02 0 0).cmd = .ok .haschg ∧
      t.pending = [req 0x02 0 0] ++ [req 0x02 0 0] :=
  ⟨_, rfl, by decide, by decide, rfl⟩

/-- Two UPDATEs after the BUILD. -/
theorem witness_HaschgAfterBuildComparesWithDelivered :
    let s := { ready with pending := [req 0x01 0x9F 0xAA] ++ req 0x01 0xDF 0xFF :: ([] ++ [req 0x02 0 0]) }
    ∃ t, exec (.build true) s = .next t ∧ t.fault = .noFault ∧ decode (req 0x01 0xDF 0xFF).cmd = .ok .update ∧
      decode (req 0x02 0 0).cmd = .ok .haschg ∧
      t.pending = [req 0x01 0x9F 0xAA] ++ req 0x01 0xDF 0xFF :: ([] ++ [req 0x02 0 0]) :=
  ⟨_, rfl, by decide, by decide, by decide, rfl⟩

theorem witness_BuildWithoutBufferAdvancesBaseline : ready.fault = .noFault ∧ ready.initDone = true := by decide

/-- The last buffer that does not wrap: `BUILD @FFFC`. -/
theorem witness_BuildWithBufferStoresAndAdvances :
    let s := { ready with bufAddr := 0xFFFC }
    s.fault = .noFault ∧ s.initDone = true ∧ s.memOk = true ∧
      s.bufAddr % 2 ^ s.params.addrW + 3 ≤ 2 ^ s.params.addrW - 1 := by decide

/-- The bytes just outside `BUILD @0200`'s buffer. -/
theorem witness_BuildWritesFourBytesInOrder :
    ready.fault = .noFault ∧ ready.initDone = true ∧ ready.memOk = true ∧
      ready.bufAddr % 2 ^ ready.params.addrW + 3 ≤ 2 ^ ready.params.addrW - 1 ∧
      0x01FF < bufOperand ready ∧ bufOperand ready + 4 ≤ 0x0204 := by decide

/-- Each side of the disjunction alone: a region that is not writable, and the first buffer that wraps. -/
theorem witness_BadBufferFaultsBeforeAnyWrite :
    let s := { ready with memOk := false }
    let u := { ready with bufAddr := 0xFFFD }
    s.fault = .noFault ∧ s.initDone = true ∧ s.memOk = false ∧ u.fault = .noFault ∧ u.initDone = true ∧ u.memOk = true ∧
      2 ^ u.params.addrW - 1 < u.bufAddr % 2 ^ u.params.addrW + 3 := by decide

theorem witness_BuildDoesNotSample :
    (∃ t, exec (.build true) ready = .next t ∧ t.fault = .noFault) ∧ ready.pin0 ≠ 0xFF :=
  ⟨⟨_, rfl, by decide⟩, by decide⟩

theorem witness_HaschgAfterBuildReturnsZero : ready.fault = .noFault ∧ ready.initDone = true := by decide

/-- Both cases of the transmission: FIRST set, and a baseline that the sample meets. -/
theorem witness_PollTransmitsExactlyWhenChanged :
    let rep := req 0x00 0 0
    let v := decodeSample ready.params.lineMap (~~~0xDF) (~~~0xFF)
    ready.fault = .noFault ∧ ready.initDone = true ∧ rep.memOk = true ∧
      rep.bufAddr % 2 ^ ready.params.addrW + 3 ≤ 2 ^ ready.params.addrW - 1 ∧ ready.first = true ∧
      { ready with first := false, dlv := ⟨128, 0, 0, 0⟩ }.first = false ∧
      v = { ready with first := false, dlv := ⟨128, 0, 0, 0⟩ }.dlv := by decide

theorem witness_OnlyInitAndUpdateWriteCur :
    ∃ t, step (ready.request 0x01) = .next t ∧ t.cur ≠ (ready.request 0x01).cur := ⟨_, rfl, by decide⟩

theorem witness_OnlyBuildWritesDelivered :
    (∃ t, step (ready.request 0x03) = .next t ∧ t.dlv ≠ (ready.request 0x03).dlv) ∧
      (∃ t, exec (.build true) ready = .next t ∧ t.fault = .noFault) ∧
      Instr.update ≠ .haschg ∧ ∃ t, exec .update ready = .next t :=
  ⟨⟨_, rfl, by decide⟩, ⟨_, rfl, by decide⟩, by decide, _, rfl⟩

theorem witness_FirstIsSetByInitAndClearedByBuild :
    (∃ t, step (ready.request 0x03) = .next t ∧ t.first ≠ (ready.request 0x03).first) ∧
      (∃ t, exec .init ready = .next t) ∧ (∃ t, exec (.build false) ready = .next t ∧ t.fault = .noFault) ∧
      Instr.update ≠ .haschg ∧ ∃ t, exec .update ready = .next t :=
  ⟨⟨_, rfl, by decide⟩, ⟨_, rfl⟩, ⟨_, rfl, by decide⟩, by decide, _, rfl⟩

theorem witness_InitDoneIsSetByInitAndKept :
    (∃ t, exec .init fresh = .next t) ∧ (∃ t, step (ready.request 0x02) = .next t ∧ (ready.request 0x02).initDone = true) ∧
      (∃ t, step (fresh.request 0x00) = .next t ∧ t.initDone ≠ (fresh.request 0x00).initDone) ∧
      fresh.fault = .noFault ∧ fresh.initDone = false ∧ Instr.build true ≠ .init :=
  ⟨⟨_, rfl⟩, ⟨_, rfl, by decide⟩, ⟨_, rfl, by decide⟩, by decide, by decide, by decide⟩

theorem witness_OnlyInitConfiguresLines :
    ∃ t, step (fresh.request 0x00) = .next t ∧ t.cfg ≠ (fresh.request 0x00).cfg := ⟨_, rfl, by decide⟩

theorem witness_InterruptEnableIsRestored :
    (∃ t, exec .init ready = .next t) ∧ (ready.request 0x00).pending = ready.requestOf 0x00 :: [] ∧
      ∃ t, step (ready.request 0x00) = .next t :=
  ⟨⟨_, rfl⟩, rfl, _, rfl⟩

theorem witness_OnlyBuildWithBufferWritesMemory :
    ∃ t, step (ready.request 0x07) = .next t ∧ t.mem.read 0x0203 ≠ (ready.request 0x07).mem.read 0x0203 :=
  ⟨_, rfl, by decide⟩

theorem witness_OnlyHaschgDrivesResult :
    (ready.request 0x02).pending = ready.requestOf 0x02 :: [] ∧
      ∃ t, step (ready.request 0x02) = .next t ∧ t.result ≠ none :=
  ⟨rfl, _, rfl, by decide⟩

/-- DLV is legal with FIRST = 0, so that both clauses of the invariant are met. -/
theorem witness_SnapshotsStayLegal :
    let s := { ready with first := false, dlv := ⟨255, 128, 0x3F, 0x03⟩, pending := [req 0x01 0xDF 0xFF] }
    snapshotsLegal s ∧ ∃ t, step s = .next t :=
  ⟨fun _ => by unfold Snapshot.legal axisLegal; decide, _, rfl⟩

theorem witness_StepKeepsTheMachineInvariant :
    let s := { ready with mem := [(0x01FF, 0x11), (0x0300, 0x22)], pending := [req 0x07 0 0] }
    machineInv s ∧ ∃ t, step s = .next t :=
  ⟨⟨fun _ => rfl, ⟨by decide, by decide⟩, by unfold faultFitsInit; decide⟩, _, rfl⟩

theorem witness_DeliveredIsCurAtTheLastBuild :
    let s := { ready with first := false, dlv := ⟨128, 0, 0, 0⟩, pending := [req 0x03 0 0] }
    deliveredFits (some ⟨128, 0, 0, 0⟩) s ∧ ∃ t, step s = .next t :=
  ⟨fun _ _ => rfl, _, rfl⟩

theorem witness_UnspecifiedResetValuesAreNeverSeen : State.reset.initDone = false := by decide

/-- A host that keeps the contract, and one that does not. -/
theorem witness_RunIsSafeExactlyWhenTheContractIsKept :
    fresh.fault = .noFault ∧ contractKept pref false [req 0x00 0xFF 0xFF, req 0x02 0 0, req 0x07 0 0] = true ∧
      contractKept pref false [req 0x02 0 0] = false := by decide

theorem witness_ParametersAreFixed : ∃ t, step (ready.request 0x01) = .next t := ⟨_, rfl⟩

end Sys2Proof.Tests
end

section
/-! UPDATE as a function of what its SAMPLE reads (spec/40_sampler.md). -/

namespace Sys2Proof.Sampler

open Sys2Proof.Machine

theorem sampleIntoCur_cur (s : State) :
    (sampleIntoCur s).cur = decodeSample s.params.lineMap (~~~s.pin0) (~~~s.pin1) := by
  rw [sampleIntoCur, State.setCur_cur, sample_eq]

theorem exec_update_of_ready {s : State} (hf : s.fault = .noFault) (hd : s.initDone = true) :
    exec .update s = .next ((sampleIntoCur s).driveResult none) :=
  afterInit_of_ready hf hd _

/-- Settles O24: both UPDATEs complete, and the CUR each writes is DECODE of the line map and the inverted levels, which the
two states share. -/
theorem updateKeepsNoHistory : Obligations.UpdateKeepsNoHistory := by
  unfold Obligations.UpdateKeepsNoHistory
  intro s s' hf hd hf' hd' hmap hpin0 hpin1
  refine ⟨_, _, exec_update_of_ready hf hd, exec_update_of_ready hf' hd', ?_⟩
  rw [State.driveResult_cur, State.driveResult_cur, sampleIntoCur_cur, sampleIntoCur_cur, hmap, hpin0, hpin1]

end Sys2Proof.Sampler
end

section
/-! The two axis tables of DECODE (spec/41_decoder.md section 2): both are the one table of `axis`. -/

namespace Sys2Proof.InputDecoder

open Sys2Proof.Machine

@[simp] theorem decodeSample_x (m : LineMap) (a b : Byte) :
    (decodeSample m a b).x = axis (lineBit a b (lineLeft m)) (lineBit a b (lineRight m)) := rfl

@[simp] theorem decodeSample_y (m : LineMap) (a b : Byte) :
    (decodeSample m a b).y = axis (lineBit a b lineUp) (lineBit a b (lineDown m)) := rfl

/-- The tie-break (R133): the write of 255 is the later one and wins, whatever the opposing line shows. -/
theorem axis_full_wins (toZero : Bool) : axis toZero true = 255 := by
  rw [axis_eq, if_pos rfl]

theorem axis_without_full (toZero : Bool) : axis toZero false = if toZero then 0 else 128 := by
  rw [axis_eq, if_neg Bool.false_ne_true]

/-- The table R131 and R132 share, row by row. -/
theorem axis_table (toZero toFull : Bool) :
    (toZero = false → toFull = false → axis toZero toFull = 128) ∧
    (toZero = true → toFull = false → axis toZero toFull = 0) ∧
    (toZero = false → toFull = true → axis toZero toFull = 255) ∧
    (toZero = true → toFull = true → axis toZero toFull = 255) := by
  refine ⟨?neither, ?zeroAlone, ?fullAlone, ?both⟩ <;> rintro rfl rfl
  case neither => exact axis_without_full false
  case zeroAlone => exact axis_without_full true
  case fullAlone => exact axis_full_wins false
  case both => exact axis_full_wins true

/-- Settles O14: byte 1 is the axis of UP and DOWN, so its rows are those of the axis table. -/
theorem verticalAxisTable : Obligations.VerticalAxisTable := by
  unfold Obligations.VerticalAxisTable
  intro m a b
  rw [decodeSample_y]
  exact axis_table (lineBit a b lineUp) (lineBit a b (lineDown m))

/-- Settles O15: byte 0 is the axis of LEFT and RIGHT, so its rows are those of the axis table. -/
theorem horizontalAxisTable : Obligations.HorizontalAxisTable := by
  unfold Obligations.HorizontalAxisTable
  intro m a b
  rw [decodeSample_x]
  exact axis_table (lineBit a b (lineLeft m)) (lineBit a b (lineRight m))

end Sys2Proof.InputDecoder
end

section
/-! HASCHG and BUILD (spec/42_change_detector.md): what each answers where it completes, and DLV as the state that BUILD alone
writes and HASCHG alone reads. -/

namespace Sys2Proof.ChangeDetector

open Sys2Proof.Machine

/-! ### HASCHG -/

theorem exec_haschg_of_ready {s : State} (hf : s.fault = .noFault) (hd : s.initDone = true) :
    exec .haschg s = .next (s.driveResult (some (changed s))) :=
  afterInit_of_ready hf hd _

theorem changed_of_not_first {s : State} (h : s.first = false) : changed s = decide (s.cur ≠ s.dlv) := by
  rw [changed, h, sameBytes_eq_decide]
  by_cases heq : s.cur = s.dlv <;> simp [heq]

/-- HASCHG's own result is no input of the comparison (R163). -/
@[simp] theorem changed_driveResult (s : State) (r : Option Bool) : changed (s.driveResult r) = changed s := rfl

/-- Two snapshots differ exactly when some bit of some byte does (R161). -/
theorem snapshot_ne_iff_getLsbD {u v : Snapshot} :
    u ≠ v ↔ ∃ (k : Fin 4) (j : Nat), j < 8 ∧ (u.byte k).getLsbD j ≠ (v.byte k).getLsbD j := by
  simp only [Ne, Snapshot.eq_iff_byte, BitVec.eq_of_getLsbD_eq_iff, not_forall, exists_prop]

/-- Settles O27: with FIRST = 0 RESULT is the inequality of the two snapshots, and that is a differing bit of some byte. -/
theorem haschgSeesAnyDifferingBit : Obligations.HaschgSeesAnyDifferingBit := by
  unfold Obligations.HaschgSeesAnyDifferingBit
  intro s hf hd hfirst
  refine ⟨_, exec_haschg_of_ready hf hd, ?_, ?_⟩ <;>
    rw [State.driveResult_result, changed_of_not_first hfirst, Option.some_inj]
  · rw [decide_eq_true_iff]
    exact snapshot_ne_iff_getLsbD
  · rw [decide_eq_false_iff_not, not_not]

/-- Settles O28: HASCHG writes RESULT alone, which the comparison does not read, so the second one drives the same value. -/
theorem haschgIsReadOnlyAndRepeatable : Obligations.HaschgIsReadOnlyAndRepeatable := by
  unfold Obligations.HaschgIsReadOnlyAndRepeatable
  intro s hf hd
  refine ⟨_, exec_haschg_of_ready hf hd, rfl, ?_⟩
  refine (exec_haschg_of_ready (s := s.driveResult (some (changed s))) hf hd).trans ?_
  rw [changed_driveResult]
  rfl

/-! ### BUILD -/

/-- What a BUILD that does not fault leaves (R165): the report stored where a buffer is present, and the baseline advanced. -/
def afterBuild (present : Bool) (s : State) : State :=
  (advanceBaseline (if present then storeReport s else s)).driveResult none

theorem exec_build_absent (s : State) : exec (.build false) s = afterInit s (.next (afterBuild false s)) := rfl

theorem exec_build_present (s : State) :
    exec (.build true) s =
      afterInit s (if bufferOk s then .next (afterBuild true s) else raiseFault .badBuffer s) := rfl

theorem exec_build_of_ready {p : Bool} {s : State} (hf : s.fault = .noFault) (hd : s.initDone = true)
    (hok : p = true → bufferOk s = true) : exec (.build p) s = .next (afterBuild p s) := by
  cases p with
  | false => exact afterInit_of_ready hf hd _
  | true => rw [exec_build_present, afterInit_of_ready hf hd, if_pos (hok rfl)]

/-- The only way for a BUILD to complete: the precheck and the buffer check both pass. -/
theorem exec_build_completed {p : Bool} {s t : State} (h : exec (.build p) s = .next t) (ht : t.fault = .noFault) :
    s.fault = .noFault ∧ s.initDone = true ∧ (p = true → bufferOk s = true) ∧ t = afterBuild p s := by
  obtain ⟨hf, ⟨hd, -⟩ | ⟨-, rfl⟩⟩ := afterInit_next h
  · have hok : p = true → bufferOk s = true := by
      rintro rfl
      by_contra hbad
      rw [exec_build_present, afterInit_of_ready hf hd, if_neg hbad] at h
      cases h
      cases ht
    exact ⟨hf, hd, hok, Host.Outcome.next.inj (h.symm.trans (exec_build_of_ready hf hd hok))⟩
  · cases ht

@[simp] theorem afterBuild_cur (p : Bool) (s : State) : (afterBuild p s).cur = s.cur := by cases p <;> rfl
@[simp] theorem afterBuild_dlv (p : Bool) (s : State) : (afterBuild p s).dlv = s.cur := by cases p <;> rfl
@[simp] theorem afterBuild_first (p : Bool) (s : State) : (afterBuild p s).first = false := rfl
@[simp] theorem afterBuild_initDone (p : Bool) (s : State) : (afterBuild p s).initDone = s.initDone := by cases p <;> rfl
@[simp] theorem afterBuild_fault (p : Bool) (s : State) : (afterBuild p s).fault = s.fault := by cases p <;> rfl
theorem afterBuild_absent_mem (s : State) : (afterBuild false s).mem = s.mem := rfl
theorem afterBuild_present_mem (s : State) :
    (afterBuild true s).mem = s.mem.writeReport (bufOperand s) s.cur := rfl

/-- The levels on the pins pass through a BUILD and reach nothing else (R167). -/
theorem afterBuild_with_pins (p : Bool) (s : State) (q0 q1 : Byte) :
    afterBuild p { s with pin0 := q0, pin1 := q1 } = { afterBuild p s with pin0 := q0, pin1 := q1 } := by
  cases p <;> rfl

theorem read_afterBuild_byte (s : State) (k : Fin 4) :
    (afterBuild true s).mem.read (bufOperand s + k.val) = some (s.cur.byte k) := by
  rw [afterBuild_present_mem, Memory.read_writeReport_byte]

/-- Settles O33: the buffer check passes, and the four writes of the report are the only change to host memory. -/
theorem buildWritesFourBytesInOrder : Obligations.BuildWritesFourBytesInOrder := by
  unfold Obligations.BuildWritesFourBytesInOrder
  refine ⟨rfl, fun s hf hd hmem hfits => ?_⟩
  have hok : bufferOk s = true := (bufferOk_iff s).2 ⟨hmem, hfits⟩
  refine ⟨_, exec_build_of_ready hf hd fun _ => hok, read_afterBuild_byte s, fun a ha => ?_⟩
  rw [afterBuild_present_mem, Memory.read_writeReport_outside _ _ ha]

/-- Settles O35: the same checks pass under the other levels, and what BUILD leaves does not depend on them. -/
theorem buildDoesNotSample : Obligations.BuildDoesNotSample := by
  unfold Obligations.BuildDoesNotSample
  intro s t p q0 q1 h ht
  obtain ⟨hf, hd, hok, rfl⟩ := exec_build_completed h ht
  refine ⟨?_, afterBuild_dlv p s, afterBuild_cur p s, ?_⟩
  · rw [← afterBuild_with_pins]
    exact exec_build_of_ready hf hd hok
  · rintro rfl
    exact read_afterBuild_byte s

theorem changed_afterBuild (p : Bool) (s : State) : changed (afterBuild p s) = false := by
  rw [changed_of_not_first (afterBuild_first p s), afterBuild_cur, afterBuild_dlv]
  simp

/-- Settles O36: BUILD leaves FIRST = 0 and DLV equal to CUR, so the comparison that follows finds no change. -/
theorem haschgAfterBuildReturnsZero : Obligations.HaschgAfterBuildReturnsZero := by
  unfold Obligations.HaschgAfterBuildReturnsZero
  intro s hf hd
  have hbuild : exec (.build false) s = .next (afterBuild false s) := exec_build_of_ready hf hd (by simp)
  have hhaschg := exec_haschg_of_ready (s := afterBuild false s) (by simpa using hf) (by simpa using hd)
  refine ⟨_, _, hbuild, afterBuild_absent_mem s, afterBuild_dlv false s, hhaschg, ?_⟩
  rw [State.driveResult_result, changed_afterBuild]

/-! ### Who writes DLV, and who reads it -/

/-- A command leaves DLV as it was, or is a BUILD that copies CUR into it (R166). -/
theorem exec_dlv {i : Instr} {s t : State} (h : exec i s = .next t) :
    t.dlv = s.dlv ∨ ∃ p, i = .build p ∧ t.dlv = s.cur := by
  obtain ⟨-, ⟨c, -, rfl, -⟩ | ⟨-, rfl⟩ | ⟨-, -, rfl⟩ | ⟨-, -, rfl⟩ | ⟨hi, -, rfl⟩ | ⟨hi, -, -, rfl⟩⟩ := exec_next_cases h
  case inl | inr.inl | inr.inr.inl | inr.inr.inr.inl => exact .inl rfl
  case inr.inr.inr.inr.inl => exact .inr ⟨false, hi, rfl⟩
  case inr.inr.inr.inr.inr => exact .inr ⟨true, hi, rfl⟩

theorem step_changes_dlv {s t : State} (h : step s = .next t) (hne : t.dlv ≠ s.dlv) :
    ∃ r rest p, s.pending = r :: rest ∧ decode r.cmd = .ok (.build p) ∧ t.dlv = s.cur := by
  obtain ⟨-, ⟨-, rfl⟩ | ⟨r, rest, hp, ⟨e, -, rfl⟩ | ⟨i, hi, hexec⟩⟩⟩ := step_next_cases h
  · exact absurd rfl hne
  · exact absurd rfl hne
  · obtain hsame | ⟨p, rfl, hdlv⟩ := exec_dlv hexec
    · exact absurd hsame hne
    · exact ⟨r, rest, p, hp, hi, hdlv⟩

/-- The operation does not read DLV: other bytes in it change nothing of the next state but DLV itself. -/
def IgnoresDlv (f : State → Host.Outcome State Fault Refusal) : Prop :=
  ∀ (s t : State) (v : Snapshot), f s = .next t → ∃ v', f (s.setDlv v) = .next (t.setDlv v')

theorem ignoresDlv_raiseFault (c : FaultCode) : IgnoresDlv (raiseFault c) := by
  rintro s t v h
  cases h
  exact ⟨v, rfl⟩

theorem ignoresDlv_whileRunning {f : State → Host.Outcome State Fault Refusal} (hf : IgnoresDlv f) :
    IgnoresDlv fun s => whileRunning s (f s) := by
  intro s t v h
  obtain ⟨hrun, hbody⟩ := whileRunning_next h
  obtain ⟨v', hv'⟩ := hf s t v hbody
  exact ⟨v', (whileRunning_of_running (s := s.setDlv v) hrun _).trans hv'⟩

theorem ignoresDlv_ite {c : State → Bool} {f g : State → Host.Outcome State Fault Refusal}
    (hc : ∀ s v, c (s.setDlv v) = c s) (hf : IgnoresDlv f) (hg : IgnoresDlv g) :
    IgnoresDlv fun s => if c s then f s else g s := by
  intro s t v h
  simp only [hc s v]
  by_cases hcs : c s = true
  · simp only [if_pos hcs] at h ⊢
    exact hf s t v h
  · simp only [if_neg hcs] at h ⊢
    exact hg s t v h

theorem ignoresDlv_afterInit {f : State → Host.Outcome State Fault Refusal} (hf : IgnoresDlv f) :
    IgnoresDlv fun s => afterInit s (f s) :=
  ignoresDlv_whileRunning (ignoresDlv_ite (fun _ _ => rfl) hf (ignoresDlv_raiseFault .notInit))

/-- A completed BUILD ends with the same DLV whatever it held before. -/
theorem ignoresDlv_afterBuild (p : Bool) : IgnoresDlv fun s => .next (afterBuild p s) := by
  rintro s t v h
  cases h
  exact ⟨s.cur, by cases p <;> rfl⟩

theorem ignoresDlv_exec_build (p : Bool) : IgnoresDlv (exec (.build p)) := by
  cases p with
  | false =>
    rw [funext exec_build_absent]
    exact ignoresDlv_afterInit (ignoresDlv_afterBuild false)
  | true =>
    rw [funext exec_build_present]
    exact ignoresDlv_afterInit
      (ignoresDlv_ite (fun _ _ => rfl) (ignoresDlv_afterBuild true) (ignoresDlv_raiseFault .badBuffer))

/-- HASCHG is the only reader of DLV (R22). -/
theorem ignoresDlv_exec {i : Instr} (hi : i ≠ .haschg) : IgnoresDlv (exec i) := by
  cases i with
  | init =>
    refine ignoresDlv_whileRunning fun s t v h => ?_
    cases h
    exact ⟨v, rfl⟩
  | update =>
    refine ignoresDlv_afterInit fun s t v h => ?_
    cases h
    exact ⟨v, rfl⟩
  | haschg => exact absurd rfl hi
  | build p => exact ignoresDlv_exec_build p

/-- Settles O39: a changed DLV comes from a BUILD, a completed BUILD leaves CUR in it, and no command but HASCHG reads it. -/
theorem onlyBuildWritesDelivered : Obligations.OnlyBuildWritesDelivered := by
  unfold Obligations.OnlyBuildWritesDelivered
  refine ⟨fun s t => step_changes_dlv, fun s t p h ht => ?_, fun s t i v hi => ignoresDlv_exec hi s t v⟩
  obtain ⟨-, -, -, rfl⟩ := exec_build_completed h ht
  exact afterBuild_dlv p s

end Sys2Proof.ChangeDetector
end

section
/-! The command word (spec/30_encoding.md): a word decodes to an instruction exactly when its fields are the instruction's. -/

namespace Sys2Proof.Encoding

open Sys2Proof.Machine

/-- Every instruction meets the law of its word, constructor by constructor. -/
theorem encodesLegalWord (i : Instr) : Laws.EncodesLegalWord.Statement i := by
  cases i with
  | init => exact Laws.EncodesLegalWord.init
  | update => exact Laws.EncodesLegalWord.update
  | haschg => exact Laws.EncodesLegalWord.haschg
  | build present => exact Laws.EncodesLegalWord.build present

theorem encode_mem_legalWords (i : Instr) : encode i ∈ [0x00#8, 0x01#8, 0x02#8, 0x03#8, 0x07#8] := by
  obtain ⟨hword, -⟩ := encodesLegalWord i
  exact hword

theorem fieldsOfWord_encode (i : Instr) : fieldsOfWord (encode i) = fieldsOfInstr i := by
  obtain ⟨-, hfields, -⟩ := encodesLegalWord i
  exact hfields

/-- The three fields partition the word (R71). -/
theorem wordOfFields_fieldsOfWord (w : Byte) : wordOfFields (fieldsOfWord w) = w := by
  refine BitVec.eq_of_getLsbD_eq fun j hj => ?_
  simp only [wordOfFields, fieldsOfWord, BitVec.getLsbD_append, BitVec.getLsbD_extractLsb', BitVec.getLsbD_ofBool]
  by_cases hop : j < 2
  · simp [hop]
  · by_cases hb : j = 2
    · simp [hb]
    · have hres : 3 + (j - 2 - 1) = j := by omega
      simp [hop, hres, show j - 2 ≠ 0 by omega, show j - 2 - 1 < 5 by omega]

/-- The checks of R78 in the form that inverts: legal fields are the fields of the instruction OP selects. -/
theorem fieldsOfInstr_instrOfOp {f : CmdFields} (hres : f.reservedZero = true) (hb : f.bufferOnlyWithBuild = true) :
    fieldsOfInstr (instrOfOp f.op f.b) = f := by
  obtain ⟨res, b, op⟩ := f
  obtain rfl : res = 0 := by simpa [CmdFields.reservedZero] using hres
  revert b op
  decide

theorem instrOfOp_fieldsOfInstr (i : Instr) : instrOfOp (fieldsOfInstr i).op (fieldsOfInstr i).b = i := by
  cases i <;> rfl

theorem wellFormed_fieldsOfInstr (i : Instr) :
    (fieldsOfInstr i).reservedZero = true ∧ (fieldsOfInstr i).bufferOnlyWithBuild = true := by
  obtain ⟨-, -, hlegal⟩ := encodesLegalWord i
  exact Bool.and_eq_true_iff.1 hlegal

theorem decode_eq_ok_iff_fields {w : Byte} {i : Instr} : decode w = .ok i ↔ fieldsOfWord w = fieldsOfInstr i := by
  constructor
  · intro h
    unfold decode at h
    split at h
    · split at h
      · cases h
        exact (fieldsOfInstr_instrOfOp ‹_› ‹_›).symm
      · cases h
    · cases h
  · intro h
    obtain ⟨hres, hb⟩ := wellFormed_fieldsOfInstr i
    rw [decode, h, if_pos hres, if_pos hb, instrOfOp_fieldsOfInstr]

theorem decode_eq_ok_iff_encode {w : Byte} {i : Instr} : decode w = .ok i ↔ encode i = w := by
  rw [decode_eq_ok_iff_fields]
  constructor
  · intro h
    rw [encode, ← h, wordOfFields_fieldsOfWord]
  · rintro rfl
    exact fieldsOfWord_encode i

@[simp] theorem decode_encode (i : Instr) : decode (encode i) = .ok i := decode_eq_ok_iff_encode.2 rfl

theorem decode_illegal {w : Byte} (h : w ∉ [0x00#8, 0x01#8, 0x02#8, 0x03#8, 0x07#8]) : ∃ e, decode w = .error e := by
  rcases hd : decode w with e | i
  · exact ⟨e, rfl⟩
  · exact absurd (decode_eq_ok_iff_encode.1 hd ▸ encode_mem_legalWords i) h

/-- Settles O4: a word decodes to an instruction exactly when it is the instruction's word. -/
theorem decodeAndEncodeAgree : Obligations.DecodeAndEncodeAgree := by
  unfold Obligations.DecodeAndEncodeAgree
  exact ⟨fun i _ => decode_encode i, fun w i => decode_eq_ok_iff_encode.1⟩

theorem runCommand_of_decode {s : State} {i : Instr} (h : decode s.cmd = .ok i) : runCommand s = exec i s := by
  rw [runCommand, h]

theorem runCommand_of_illegal {s : State} {e : DecodeError} (h : decode s.cmd = .error e) :
    runCommand s = execIllegal s := by
  rw [runCommand, h]

theorem runCommand_of_encode {s : State} (i : Instr) (h : s.cmd = encode i) : runCommand s = exec i s :=
  runCommand_of_decode (decode_eq_ok_iff_encode.2 h.symm)

/-- Settles O5: the five words are the instructions' words, and a word that is none of them decodes to no instruction. -/
theorem onlyFiveWordsAreLegal : Obligations.OnlyFiveWordsAreLegal := by
  unfold Obligations.OnlyFiveWordsAreLegal
  intro s
  refine ⟨runCommand_of_encode .init, runCommand_of_encode .update, runCommand_of_encode .haschg,
    runCommand_of_encode (.build false), runCommand_of_encode (.build true), fun hw hf => ?_⟩
  obtain ⟨e, he⟩ := decode_illegal hw
  rw [runCommand_of_illegal he]
  exact whileRunning_of_running hf _

/-- Settles O1: each word written out is the word of its command. -/
theorem specWordsDecode : Obligations.SpecWordsDecode := by
  unfold Obligations.SpecWordsDecode
  exact ⟨decode_encode .init, decode_encode .update, decode_encode .haschg, decode_encode (.build false),
    decode_encode (.build true)⟩

/-- Settles O2: a line's word is that of its instruction, and `BUILD @a` alone presents an address. -/
theorem assemblerLinesGiveTheirWords : Obligations.AssemblerLinesGiveTheirWords := by
  unfold Obligations.AssemblerLinesGiveTheirWords
  have hbuildAt : encode (.build true) = 0x07 := by decide
  exact ⟨rfl, rfl, rfl, rfl, fun a => Prod.ext hbuildAt rfl⟩

/-- Settles O3: the decoder's two checks, RES first. -/
theorem illegalFieldsAreRefusedByName : Obligations.IllegalFieldsAreRefusedByName := by
  unfold Obligations.IllegalFieldsAreRefusedByName
  intro w
  constructor
  · intro hres
    have hcheck : ¬(fieldsOfWord w).reservedZero = true := by simpa [CmdFields.reservedZero, fieldsOfWord] using hres
    rw [decode, if_neg hcheck]
  · intro hres hb hop
    have hcheck : (fieldsOfWord w).reservedZero = true := by simpa [CmdFields.reservedZero, fieldsOfWord] using hres
    have hbuffer : ¬(fieldsOfWord w).bufferOnlyWithBuild = true := by
      simpa [CmdFields.bufferOnlyWithBuild, fieldsOfWord, hb] using hop
    rw [decode, if_pos hcheck, if_neg hbuffer]

end Sys2Proof.Encoding
end

section
/-! DECODE line by line (spec/41_decoder.md): the twelve lines it reads, the range of its bytes, and its image. -/

namespace Sys2Proof.InputDecoder

open Sys2Proof.Machine

@[simp] theorem decodeSample_btnLo (m : LineMap) (a b : Byte) : (decodeSample m a b).btnLo = buttonsLo m a b := rfl

@[simp] theorem decodeSample_btnHi (m : LineMap) (a b : Byte) : (decodeSample m a b).btnHi = buttonsHi m a b := rfl

/-- Settles O13: SAMPLE is the inversion of both groups, and inverting a byte inverts each of its bits. -/
theorem sampleInvertsBothGroups : Obligations.SampleInvertsBothGroups := by
  unfold Obligations.SampleInvertsBothGroups
  intro s
  refine ⟨sample_eq s, fun i hi => ?_⟩
  simp [hi]

/-! ### The range of DECODE (R137) -/

theorem axis_legal (toZero toFull : Bool) : axisLegal (axis toZero toFull) := by
  rw [axis_eq]
  unfold axisLegal
  split
  · exact .inr (.inr rfl)
  · split
    · exact .inl rfl
    · exact .inr (.inl rfl)

/-- A byte whose bits are 0 from `n` on is below 2^n. -/
theorem byte_lt_two_pow {v : Byte} {n : Nat} (h : ∀ i : Fin 8, n ≤ i.val → v.getLsbD i.val = false) :
    v.toNat < 2 ^ n := by
  refine Nat.lt_pow_two_of_testBit _ fun i hi => ?_
  rw [BitVec.testBit_toNat]
  by_cases hlt : i < 8
  · exact h ⟨i, hlt⟩ hi
  · exact BitVec.getLsbD_of_ge v i (by omega)

theorem getLsbD_of_lt_two_pow {v : Byte} {n i : Nat} (h : v.toNat < 2 ^ n) (hi : n ≤ i) : v.getLsbD i = false := by
  rw [← BitVec.testBit_toNat]
  exact Nat.testBit_lt_two_pow (Nat.lt_of_lt_of_le h (Nat.pow_le_pow_right (by decide) hi))

/-- Bits 7:6 of byte 2 are 0 (R136). -/
theorem getLsbD_buttonsLo_unused (m : LineMap) (a b : Byte) {i : Fin 8} (hi : 6 ≤ i.val) :
    (buttonsLo m a b).getLsbD i.val = false := by
  rw [getLsbD_buttonsLo, decide_eq_false (by omega), Bool.false_and]

/-- Bits 7:2 of byte 3 are 0 (R136). -/
theorem getLsbD_buttonsHi_unused (m : LineMap) (a b : Byte) {i : Fin 8} (hi : 2 ≤ i.val) :
    (buttonsHi m a b).getLsbD i.val = false := by
  rw [getLsbD_buttonsHi, if_neg (by omega), if_neg (by omega)]

theorem decodeSample_legal (m : LineMap) (a b : Byte) : (decodeSample m a b).legal :=
  ⟨axis_legal _ _, axis_legal _ _, byte_lt_two_pow (n := 6) fun _ => getLsbD_buttonsLo_unused m a b,
    byte_lt_two_pow (n := 2) fun _ => getLsbD_buttonsHi_unused m a b⟩

/-- Settles O18: the range of the two axes and of the two button bytes is the legality of a decoded snapshot. -/
theorem decodedBytesStayInRange : Obligations.DecodedBytesStayInRange := by
  unfold Obligations.DecodedBytesStayInRange
  exact decodeSample_legal

/-! ### The button bits (R135, R53) -/

/-- Settles O17: a button bit is the inverted sample of its own line, and BTN_MAP is injective. -/
theorem buttonBitsFollowTheirLines : Obligations.ButtonBitsFollowTheirLines := by
  unfold Obligations.ButtonBitsFollowTheirLines
  intro s
  simp only [sample_eq, decodeSample_btnLo, decodeSample_btnHi]
  refine ⟨fun i hi => ?_, ?_, ?_, fun i j => buttonLine_injective s.params.lineMap⟩
  · rw [getLsbD_buttonsLo, decide_eq_true hi, Bool.true_and, lineBit_not]
  · exact (getLsbD_buttonsHi _ _ _ 0).trans (lineBit_not _ _ _)
  · exact (getLsbD_buttonsHi _ _ _ 1).trans (lineBit_not _ _ _)

theorem descriptorButton_low (v : Snapshot) {n : Fin 16} (h : n.val < 8) :
    descriptorButton v n = v.btnLo.getLsbD n.val := if_pos h

theorem descriptorButton_high (v : Snapshot) {n : Fin 16} (h : 8 ≤ n.val) :
    descriptorButton v n = v.btnHi.getLsbD (n.val - 8) := if_neg (by omega)

/-- Settles O21: descriptor buttons 0 to 7 are the bits of byte 2 and 8 to 15 those of byte 3, where DECODE puts B0..B5 and
B6, B7 and leaves every other bit 0. -/
theorem descriptorButtonsOfAReport : Obligations.DescriptorButtonsOfAReport := by
  unfold Obligations.DescriptorButtonsOfAReport
  refine fun m a b => ⟨fun i => ?carried, fun n hn => ?unused⟩
  case carried =>
    by_cases hi : i.val < 6
    · rw [if_pos hi, descriptorButton_low _ (by dsimp only; omega), decodeSample_btnLo, getLsbD_buttonsLo,
        decide_eq_true hi, Bool.true_and]
    · rw [if_neg hi, descriptorButton_high _ (by dsimp only; omega), decodeSample_btnHi]
      obtain rfl | rfl : i = 6 ∨ i = 7 := by omega
      · exact getLsbD_buttonsHi m a b 0
      · exact getLsbD_buttonsHi m a b 1
  case unused =>
    by_cases hlow : n.val < 8
    · rw [descriptorButton_low _ hlow]
      exact getLsbD_buttonsLo_unused m a b (i := ⟨n.val, hlow⟩) (by dsimp only; omega)
    · rw [descriptorButton_high _ (by omega)]
      exact getLsbD_buttonsHi_unused m a b (i := ⟨n.val - 8, by omega⟩) (by dsimp only; omega)

/-! ### The twelve lines DECODE reads (R139) -/

/-- The lines DECODE reads: UP, DOWN, LEFT, RIGHT, and the lines of B0..B7. -/
def readLine (m : LineMap) : Fin 4 ⊕ Fin 8 → Line
  | .inl 0 => lineUp
  | .inl 1 => lineDown m
  | .inl 2 => lineLeft m
  | .inl 3 => lineRight m
  | .inr i => buttonLine m i

theorem readLine_isRead (m : LineMap) (k : Fin 4 ⊕ Fin 8) :
    readLine m k ∈ [lineUp, lineDown m, lineLeft m, lineRight m] ∨ ∃ i, readLine m k = buttonLine m i := by
  rcases k with k | i
  · left
    fin_cases k <;> simp [readLine]
  · exact .inr ⟨i, rfl⟩

/-- The snapshot DECODE makes of the bits of its twelve lines. -/
def snapshotOfBits (bit : Fin 4 ⊕ Fin 8 → Bool) : Snapshot where
  y := axis (bit (.inl 0)) (bit (.inl 1))
  x := axis (bit (.inl 2)) (bit (.inl 3))
  btnLo := [0, 1, 2, 3, 4, 5].foldl (fun v (i : Fin 8) => setBit v i.val (bit (.inr i))) 0x00
  btnHi := setBit (setBit 0x00 0 (bit (.inr 6))) 1 (bit (.inr 7))

theorem decodeSample_eq_snapshotOfBits (m : LineMap) (a b : Byte) :
    decodeSample m a b = snapshotOfBits fun k => lineBit a b (readLine m k) := rfl

/-- DECODE sees nothing of its two bytes but the bits of the lines it reads. -/
theorem decodeSample_congr {m : LineMap} {a b a' b' : Byte}
    (h : ∀ k, lineBit a b (readLine m k) = lineBit a' b' (readLine m k)) :
    decodeSample m a b = decodeSample m a' b' := by
  rw [decodeSample_eq_snapshotOfBits, decodeSample_eq_snapshotOfBits, funext h]

/-- Settles O16: the four direction lines are in G0, so their bits do not depend on the byte of G1. -/
theorem axesComeFromOneInstant : Obligations.AxesComeFromOneInstant := by
  unfold Obligations.AxesComeFromOneInstant
  intro m a b b'
  have hbit (i : Fin 8) : lineBit a b ⟨.g0, i⟩ = lineBit a b' ⟨.g0, i⟩ := rfl
  simp only [decodeSample_x, decodeSample_y]
  exact ⟨congrArg₂ axis (hbit _) (hbit _), congrArg₂ axis (hbit _) (hbit _)⟩

/-- The bit of G0 that carries a direction line. -/
def directionBit (m : LineMap) : Fin 4 → Fin 8
  | 0 => lineUpBit
  | 1 => m.table.down
  | 2 => m.table.left
  | 3 => m.table.right

theorem readLine_direction (m : LineMap) (k : Fin 4) : readLine m (.inl k) = ⟨.g0, directionBit m k⟩ := by
  fin_cases k <;> rfl

/-- The constraint of R7 on the six lines of G0, the directions first. -/
theorem nodup_directionBits_append (m : LineMap) :
    (List.ofFn (directionBit m) ++ [m.table.btnG0Low, m.table.btnG0High]).Nodup := directionBits_distinct m

theorem directionBit_injective (m : LineMap) : Function.Injective (directionBit m) :=
  List.nodup_ofFn.1 (nodup_directionBits_append m).of_append_left

/-- No button line is a direction line (R7). -/
theorem buttonLine_ne_direction (m : LineMap) (i : Fin 8) (k : Fin 4) : buttonLine m i ≠ ⟨.g0, directionBit m k⟩ := by
  intro heq
  have hbutton := buttonLine_isButtonLine m i
  rw [heq] at hbutton
  have hmem : directionBit m k ∈ [m.table.btnG0Low, m.table.btnG0High] := by
    simpa [LineTable.isButtonLine] using hbutton
  have hdirection : directionBit m k ∈ List.ofFn (directionBit m) := List.mem_ofFn.2 ⟨k, rfl⟩
  exact List.disjoint_of_nodup_append (nodup_directionBits_append m) hdirection hmem

/-- The twelve lines are distinct (R7). -/
theorem readLine_injective (m : LineMap) : Function.Injective (readLine m) := by
  rintro (j | i) (k | i') h
  · rw [readLine_direction, readLine_direction, Line.mk.injEq] at h
    rw [directionBit_injective m h.2]
  · exact absurd (h.symm.trans (readLine_direction m j)) (buttonLine_ne_direction m i' j)
  · exact absurd (h.trans (readLine_direction m k)) (buttonLine_ne_direction m i k)
  · rw [buttonLine_injective m h]

/-- In the sample of W1, UP alone asserted, every other line that DECODE reads is 0. -/
theorem lineBit_upAlone (l : Line) : lineBit (~~~0xDF) (~~~0xFF) l = decide (l = lineUp) := by
  obtain ⟨group, bit⟩ := l
  cases group <;> revert bit <;> decide

/-- Settles O20: UP is read as asserted and the eleven other lines, distinct from it, as released. -/
theorem upLineAloneGivesItsReport : Obligations.UpLineAloneGivesItsReport := by
  unfold Obligations.UpLineAloneGivesItsReport
  intro s h0 h1
  have hread (k : Fin 4 ⊕ Fin 8) :
      lineBit (~~~0xDF) (~~~0xFF) (readLine s.params.lineMap k) = decide (k = .inl 0) := by
    rw [lineBit_upAlone]
    exact decide_eq_decide.2 ((readLine_injective s.params.lineMap).eq_iff (b := .inl 0))
  rw [sample_eq, h0, h1, decodeSample_eq_snapshotOfBits, funext hread]
  decide

/-! ### The image of DECODE (R139) -/

/-- The twelve lines being distinct, some levels show any twelve bits on them. -/
theorem exists_lineBits (m : LineMap) (bit : Fin 4 ⊕ Fin 8 → Bool) :
    ∃ a b : Byte, ∀ k, lineBit a b (readLine m k) = bit k := by
  have hextend := (readLine_injective m).extend_apply bit fun _ => false
  generalize Function.extend (readLine m) bit (fun _ => false) = level at hextend
  have hlevel (l : Line) :
      lineBit (BitVec.ofFnLE fun i : Fin 8 => level ⟨.g0, i⟩) (BitVec.ofFnLE fun i : Fin 8 => level ⟨.g1, i⟩) l =
        level l := by
    obtain ⟨group, i⟩ := l
    cases group <;> simp [lineBit]
  exact ⟨_, _, fun k => (hlevel _).trans (hextend k)⟩

theorem exists_axis_eq {v : Byte} (h : axisLegal v) : ∃ toZero toFull, axis toZero toFull = v := by
  obtain rfl | rfl | rfl := h
  · exact ⟨true, false, rfl⟩
  · exact ⟨false, false, rfl⟩
  · exact ⟨false, true, rfl⟩

/-- The bit of Bi in a snapshot: bits 5:0 of byte 2, then bits 1:0 of byte 3 (R135). -/
def buttonBit (v : Snapshot) (i : Fin 8) : Bool :=
  if i.val < 6 then v.btnLo.getLsbD i.val else v.btnHi.getLsbD (i.val - 6)

theorem buttonsLo_eq {m : LineMap} {a b : Byte} {v : Snapshot} (hlegal : v.btnLo.toNat < 2 ^ 6)
    (hbutton : ∀ i, lineBit a b (buttonLine m i) = buttonBit v i) : buttonsLo m a b = v.btnLo := by
  refine BitVec.eq_of_getLsbD_eq fun i hi => ?_
  refine (getLsbD_buttonsLo m a b ⟨i, hi⟩).trans ?_
  by_cases hused : i < 6
  · rw [hbutton, buttonBit, if_pos hused, decide_eq_true hused, Bool.true_and]
  · rw [getLsbD_of_lt_two_pow hlegal (by omega), decide_eq_false hused, Bool.false_and]

theorem buttonsHi_eq {m : LineMap} {a b : Byte} {v : Snapshot} (hlegal : v.btnHi.toNat < 2 ^ 2)
    (hbutton : ∀ i, lineBit a b (buttonLine m i) = buttonBit v i) : buttonsHi m a b = v.btnHi := by
  refine BitVec.eq_of_getLsbD_eq fun i hi => ?_
  refine (getLsbD_buttonsHi m a b ⟨i, hi⟩).trans ?_
  rw [hbutton, hbutton]
  match i with
  | 0 | 1 => rfl
  | j + 2 =>
    rw [getLsbD_of_lt_two_pow hlegal (Nat.le_add_left 2 j), if_neg, if_neg] <;> simp [Fin.ext_iff]

theorem exists_decodeSample_eq_iff_legal (m : LineMap) (v : Snapshot) : (∃ a b, decodeSample m a b = v) ↔ v.legal := by
  constructor
  · rintro ⟨a, b, rfl⟩
    exact decodeSample_legal m a b
  · rintro ⟨hx, hy, hlo, hhi⟩
    obtain ⟨left, right, hx⟩ := exists_axis_eq hx
    obtain ⟨up, down, hy⟩ := exists_axis_eq hy
    obtain ⟨a, b, hbit⟩ := exists_lineBits m (Sum.elim ![up, down, left, right] (buttonBit v))
    have hx : axis (lineBit a b (lineLeft m)) (lineBit a b (lineRight m)) = v.x :=
      (congrArg₂ axis (hbit (.inl 2)) (hbit (.inl 3))).trans hx
    have hy : axis (lineBit a b lineUp) (lineBit a b (lineDown m)) = v.y :=
      (congrArg₂ axis (hbit (.inl 0)) (hbit (.inl 1))).trans hy
    have hbutton (i : Fin 8) : lineBit a b (buttonLine m i) = buttonBit v i := hbit (.inr i)
    refine ⟨a, b, ?_⟩
    rw [decodeSample, hx, hy, buttonsLo_eq hlo hbutton, buttonsHi_eq hhi hbutton]

/-- The bytes 0, 1, …, n - 1. -/
def bytesBelow (n : Nat) : List Byte := (List.range n).map (BitVec.ofNat 8)

theorem mem_bytesBelow {n : Nat} (hn : n ≤ 256) {v : Byte} : v ∈ bytesBelow n ↔ v.toNat < n := by
  simp only [bytesBelow, List.mem_map, List.mem_range]
  constructor
  · rintro ⟨k, hk, rfl⟩
    rw [BitVec.toNat_ofNat]
    omega
  · exact fun h => ⟨v.toNat, h, BitVec.ofNat_toNat ..⟩

theorem nodup_bytesBelow {n : Nat} (hn : n ≤ 256) : (bytesBelow n).Nodup := by
  refine List.Nodup.map_on (fun j hj k hk h => ?_) List.nodup_range
  have htoNat := congrArg BitVec.toNat h
  rw [List.mem_range] at hj hk
  rw [BitVec.toNat_ofNat, BitVec.toNat_ofNat] at htoNat
  omega

/-- The snapshot of four bytes. -/
def snapshotOfBytes (p : (Byte × Byte) × Byte × Byte) : Snapshot := ⟨p.1.1, p.1.2, p.2.1, p.2.2⟩

/-- Every combination of two axis bytes and the two button bytes (R139). -/
def legalSnapshots : List Snapshot :=
  (([0, 128, 255] ×ˢ [0, 128, 255]) ×ˢ (bytesBelow 0x40 ×ˢ bytesBelow 0x04)).map snapshotOfBytes

theorem mem_legalSnapshots {v : Snapshot} : v ∈ legalSnapshots ↔ v.legal := by
  obtain ⟨x, y, lo, hi⟩ := v
  simp only [legalSnapshots, List.mem_map, Prod.exists, List.mem_product, snapshotOfBytes, Snapshot.mk.injEq,
    mem_bytesBelow (show 0x40 ≤ 256 by decide), mem_bytesBelow (show 0x04 ≤ 256 by decide)]
  simp [Snapshot.legal, axisLegal, and_assoc]

theorem nodup_legalSnapshots : legalSnapshots.Nodup := by
  have haxis : [(0 : Byte), 128, 255].Nodup := by decide
  refine List.Nodup.map ?_ ((haxis.product haxis).product
    ((nodup_bytesBelow (by decide)).product (nodup_bytesBelow (by decide))))
  rintro ⟨⟨x, y⟩, lo, hi⟩ ⟨⟨x', y'⟩, lo', hi'⟩ h
  obtain ⟨rfl, rfl, rfl, rfl⟩ := Snapshot.mk.inj h
  rfl

theorem length_legalSnapshots : legalSnapshots.length = 3 * 3 * 2 ^ 8 := by
  simp [legalSnapshots, List.length_product, bytesBelow]

/-- Settles O19: DECODE is a function of the bits of its twelve lines, and as these lines are distinct its image is every
legal snapshot, of which the list has 2304. -/
theorem decodeImageIsEveryLegalSnapshot : Obligations.DecodeImageIsEveryLegalSnapshot := by
  unfold Obligations.DecodeImageIsEveryLegalSnapshot
  refine fun m => ⟨fun a b a' b' h => decodeSample_congr fun k => h _ (readLine_isRead m k),
    exists_decodeSample_eq_iff_legal m, legalSnapshots, nodup_legalSnapshots, length_legalSnapshots, fun v => ?_⟩
  rw [mem_legalSnapshots, exists_decodeSample_eq_iff_legal]

end Sys2Proof.InputDecoder
end

section
/-! What each command answers on a running block and what a step can do, said once (spec/60_exceptions.md R204, R205), and
the statements about single steps. -/

namespace Sys2Proof.Steps

open Sys2Proof.Machine Sys2Proof.Sampler Sys2Proof.ChangeDetector Sys2Proof.Encoding

/-! ### What a command answers -/

/-- What INIT leaves on a running block (R105). -/
theorem exec_init_of_running {s : State} (hf : s.fault = .noFault) :
    exec .init s = .next { s with
      cfg := allInputsPulledUp, cur := decodeSample s.params.lineMap (~~~s.pin0) (~~~s.pin1)
      first := true, initDone := true, result := none } :=
  whileRunning_of_running hf _

/-- Before INIT every other command is turned away (R24, R204). -/
theorem exec_of_uninitialised {i : Instr} {s : State} (hf : s.fault = .noFault) (hd : s.initDone = false)
    (hi : i ≠ .init) : exec i s = .next { s with fault := .notInit, result := none } := by
  have hturned (body : Host.Outcome State Fault Refusal) :
      afterInit s body = .next { s with fault := .notInit, result := none } := by
    rw [afterInit, whileRunning_of_running hf, if_neg (by simp [hd])]
    rfl
  cases i with
  | init => exact absurd rfl hi
  | update => exact hturned _
  | haschg => exact hturned _
  | build present => exact hturned _

theorem exec_build_of_badBuffer {s : State} (hf : s.fault = .noFault) (hd : s.initDone = true)
    (hbad : bufferOk s = false) : exec (.build true) s = .next { s with fault := .badBuffer, result := none } := by
  rw [exec_build_present, afterInit_of_ready hf hd, hbad]
  rfl

/-- The buffer check fails exactly when MEM_OK is 0 or BUF + 3 passes the last address (R54). -/
theorem bufferOk_eq_false_iff (s : State) :
    bufferOk s = false ↔ s.memOk = false ∨ 2 ^ s.params.addrW - 1 < s.bufAddr % 2 ^ s.params.addrW + 3 := by
  rw [← Bool.not_eq_true, bufferOk_iff, not_and_or, Bool.not_eq_true, Nat.not_le]

theorem exec_of_stopped {s : State} (h : s.fault ≠ .noFault) (i : Instr) : exec i s = .fault (.stopped s.fault) := by
  cases i <;> exact whileRunning_of_stopped h _

/-- A running block completes every command, if only by recording a fault (R239). -/
theorem exec_completes {s : State} (hf : s.fault = .noFault) (i : Instr) : ∃ t, exec i s = .next t := by
  by_cases hi : i = .init
  · subst hi
    exact ⟨_, exec_init_of_running hf⟩
  by_cases hd : s.initDone = true
  · cases i with
    | init => exact absurd rfl hi
    | update => exact ⟨_, exec_update_of_ready hf hd⟩
    | haschg => exact ⟨_, exec_haschg_of_ready hf hd⟩
    | build present =>
      by_cases hok : present = true → bufferOk s = true
      · exact ⟨_, exec_build_of_ready hf hd hok⟩
      · obtain ⟨rfl, hbad⟩ := Classical.not_imp.1 hok
        exact ⟨_, exec_build_of_badBuffer hf hd (Bool.eq_false_iff.2 hbad)⟩
  · exact ⟨_, exec_of_uninitialised hf (Bool.eq_false_iff.2 hd) hi⟩

/-! ### What a step answers -/

theorem step_of_idle {s : State} (hp : s.pending = []) : step s = whileRunning s (.next s) := by
  rw [step, nextRequest, hp]
  rfl

theorem step_of_waiting {s : State} (hf : s.fault = .noFault) (hp : s.pending = []) : step s = .next s :=
  (step_of_idle hp).trans (whileRunning_of_running hf _)

theorem step_of_illegal {s : State} {r : Request} {rest : List Request} {e : DecodeError} (hp : s.pending = r :: rest)
    (hd : decode r.cmd = .error e) : step s = whileRunning s (raiseFault .reservedCmd (s.present r rest)) := by
  rw [step, nextRequest, hp]
  exact runCommand_of_illegal (s := s.present r rest) hd

theorem step_of_stopped {s : State} (h : s.fault ≠ .noFault) : step s = .fault (.stopped s.fault) := by
  rcases hp : s.pending with _ | ⟨r, rest⟩
  · rw [step_of_idle hp, whileRunning_of_stopped h]
  · rcases hd : decode r.cmd with e | i
    · rw [step_of_illegal hp hd, whileRunning_of_stopped h]
    · rw [step_of_request hp hd]
      exact exec_of_stopped (s := s.present r rest) h i

theorem step_completes {s : State} (hf : s.fault = .noFault) : ∃ t, step s = .next t := by
  rcases hp : s.pending with _ | ⟨r, rest⟩
  · exact ⟨s, step_of_waiting hf hp⟩
  · rcases hd : decode r.cmd with e | i
    · exact ⟨_, (step_of_illegal hp hd).trans (whileRunning_of_running hf _)⟩
    · rw [step_of_request hp hd]
      exact exec_completes (s := s.present r rest) hf i

/-- A stopped block stays stopped for any number of steps (R205). -/
theorem run_of_stopped {s : State} (h : s.fault ≠ .noFault) (k : Nat) :
    Host.Core.run Sys2Proof.core (k + 1) s = .fault (.stopped s.fault) :=
  run_succ_of_fault (step_of_stopped h) k

/-! ### The steps that raise a fault -/

/-- Why a command records a fault: it came before INIT, or its buffer is bad (R200). -/
theorem exec_raised {i : Instr} {s t : State} (h : exec i s = .next t) (ht : t.fault ≠ .noFault) :
    t = { s with fault := t.fault, result := none } ∧
      ((t.fault = .notInit ∧ s.initDone = false ∧ i ≠ .init) ∨
        (t.fault = .badBuffer ∧ s.initDone = true ∧ i = .build true ∧ bufferOk s = false)) := by
  obtain ⟨hf, ⟨c, -, rfl, hcause⟩ | ⟨-, rfl⟩ | ⟨-, -, rfl⟩ | ⟨-, -, rfl⟩ | ⟨-, -, rfl⟩ | ⟨-, -, -, rfl⟩⟩ :=
    exec_next_cases h
  case inl =>
    obtain ⟨rfl, hi, hd⟩ | ⟨rfl, hi, hd, hbad⟩ := hcause
    · exact ⟨rfl, .inl ⟨rfl, hd, hi⟩⟩
    · exact ⟨rfl, .inr ⟨rfl, hd, hi, hbad⟩⟩
  all_goals exact absurd hf ht

/-- What a step that raises a fault leaves, and the three causes (R200, R205). -/
theorem step_raised {s t : State} (h : step s = .next t) (ht : t.fault ≠ .noFault) :
    ∃ r rest, s.pending = r :: rest ∧ t = { s.present r rest with fault := t.fault, result := none } ∧
      ((t.fault = .reservedCmd ∧ ∃ e, decode r.cmd = .error e) ∨
        (t.fault = .notInit ∧ s.initDone = false ∧ ∃ i, decode r.cmd = .ok i ∧ i ≠ .init) ∨
        (t.fault = .badBuffer ∧ s.initDone = true ∧ decode r.cmd = .ok (.build true) ∧
          bufferOk (s.present r rest) = false)) := by
  obtain ⟨hf, ⟨-, rfl⟩ | ⟨r, rest, hp, ⟨e, he, rfl⟩ | ⟨i, hi, hexec⟩⟩⟩ := step_next_cases h
  · exact absurd hf ht
  · exact ⟨r, rest, hp, rfl, .inl ⟨rfl, e, he⟩⟩
  · obtain ⟨heq, ⟨hcode, hd, hne⟩ | ⟨hcode, hd, rfl, hbad⟩⟩ := exec_raised hexec ht
    · exact ⟨r, rest, hp, heq, .inr (.inl ⟨hcode, hd, i, hi, hne⟩)⟩
    · exact ⟨r, rest, hp, heq, .inr (.inr ⟨hcode, hd, hi, hbad⟩)⟩

/-! ### The obligations about single steps -/

/-- Settles O8: the precheck's first test stands before every command and before the step. -/
theorem stoppedBlockTakesNoStep : Obligations.StoppedBlockTakesNoStep := by
  unfold Obligations.StoppedBlockTakesNoStep
  exact fun s h => ⟨exec_of_stopped h, step_of_stopped h⟩

/-- Settles O9: an idle step, an illegal word and every command complete on a running block. -/
theorem runningBlockCompletesEveryStep : Obligations.RunningBlockCompletesEveryStep := by
  unfold Obligations.RunningBlockCompletesEveryStep
  exact fun s => step_completes

/-- Settles O11: each clause is the answer of one test of the precheck, the tests before it having passed. -/
theorem faultPriorityFollowsThePrecheck : Obligations.FaultPriorityFollowsThePrecheck := by
  unfold Obligations.FaultPriorityFollowsThePrecheck
  refine fun s r rest hp => ⟨step_of_stopped, fun hf e he => ?reserved, fun hf i hi hne hd => ?notInit,
    fun hf hi hd hmem => ?badBuffer, fun hf hi => ?init⟩
  case reserved => exact ⟨_, (step_of_illegal hp he).trans (whileRunning_of_running hf _), rfl⟩
  case notInit =>
    exact ⟨_, (step_of_request hp hi).trans (exec_of_uninitialised (s := s.present r rest) hf hd hne), rfl⟩
  case badBuffer =>
    have hbad : bufferOk (s.present r rest) = false := (bufferOk_eq_false_iff _).2 (.inl hmem)
    exact ⟨_, (step_of_request hp hi).trans (exec_build_of_badBuffer hf hd hbad), rfl⟩
  case init => exact ⟨_, (step_of_request hp hi).trans (exec_init_of_running (s := s.present r rest) hf), hf⟩

/-- Settles O12: a step that raises a fault leaves the presented state but for FAULT and RESULT, and the block it leaves is
stopped. -/
theorem faultsArePreciseAndFinal : Obligations.FaultsArePreciseAndFinal := by
  unfold Obligations.FaultsArePreciseAndFinal
  intro s t _ h ht
  obtain ⟨r, rest, hp, heq, hcause⟩ := step_raised h ht
  rw [bufferOk_eq_false_iff] at hcause
  have hfinal := run_of_stopped ht
  generalize t.fault = c at *
  subst heq
  exact ⟨rfl, rfl, rfl, rfl, rfl, rfl, rfl, rfl, ⟨r, rest, hp, rfl, hcause⟩, hfinal⟩

/-- Settles O6: the step decodes the word of the request it presents. -/
theorem stepRunsTheDecodedCommand : Obligations.StepRunsTheDecodedCommand := by
  unfold Obligations.StepRunsTheDecodedCommand
  exact fun s r rest i hp hi => step_of_request hp hi

/-- Settles O7: the idle step of a running block is the identity. -/
theorem blockWaitsForTheNextRequest : Obligations.BlockWaitsForTheNextRequest := by
  unfold Obligations.BlockWaitsForTheNextRequest
  exact fun s hp hf => step_of_waiting hf hp

/-- Settles O10: the four rows of R200's table. -/
theorem faultCodesHaveTheirValues : Obligations.FaultCodesHaveTheirValues := by
  unfold Obligations.FaultCodesHaveTheirValues
  exact ⟨rfl, rfl, rfl, rfl⟩

/-! ### The commands' exact next states -/

/-- Settles O22: INIT on a running block, SAMPLE being the inversion of the two levels. -/
theorem initConfiguresAndSamples : Obligations.InitConfiguresAndSamples := by
  unfold Obligations.InitConfiguresAndSamples
  exact fun s => exec_init_of_running

/-- Settles O23: UPDATE after INIT, SAMPLE being the inversion of the two levels. -/
theorem updateOverwritesCurAlone : Obligations.UpdateOverwritesCurAlone := by
  unfold Obligations.UpdateOverwritesCurAlone
  exact fun s => exec_update_of_ready

theorem changed_eq (s : State) : changed s = (s.first || decide (s.cur ≠ s.dlv)) := by
  rcases hfirst : s.first with _ | _
  · rw [changed_of_not_first hfirst, Bool.false_or]
  · rw [changed, hfirst, if_pos rfl, Bool.true_or]

/-- Settles O26: HASCHG after INIT drives the comparison on RESULT. -/
theorem haschgDrivesResultAlone : Obligations.HaschgDrivesResultAlone := by
  unfold Obligations.HaschgDrivesResultAlone
  intro s hf hd
  rw [exec_haschg_of_ready hf hd, changed_eq]
  rfl

/-- Settles O31: BUILD without a buffer has no check to pass after INIT. -/
theorem buildWithoutBufferAdvancesBaseline : Obligations.BuildWithoutBufferAdvancesBaseline := by
  unfold Obligations.BuildWithoutBufferAdvancesBaseline
  exact fun s hf hd => exec_build_of_ready hf hd (by simp)

/-- Settles O32: the buffer check passes, so the report is stored and the baseline advances. -/
theorem buildWithBufferStoresAndAdvances : Obligations.BuildWithBufferStoresAndAdvances := by
  unfold Obligations.BuildWithBufferStoresAndAdvances
  exact fun s hf hd hmem hfits => exec_build_of_ready hf hd fun _ => (bufferOk_iff s).2 ⟨hmem, hfits⟩

/-- Settles O34: either bad condition fails the buffer check, which stands before the store. -/
theorem badBufferFaultsBeforeAnyWrite : Obligations.BadBufferFaultsBeforeAnyWrite := by
  unfold Obligations.BadBufferFaultsBeforeAnyWrite
  exact fun s hf hd hbad => exec_build_of_badBuffer hf hd ((bufferOk_eq_false_iff s).2 hbad)

/-- Levels that agree on the lines DECODE reads give one snapshot, inverted as SAMPLE inverts them. -/
theorem decodeSample_inverted_congr {m : LineMap} {p0 p1 q0 q1 : Byte}
    (h : ∀ l, l ∈ [lineUp, lineDown m, lineLeft m, lineRight m] ∨ (∃ i, l = buttonLine m i) →
      lineBit p0 p1 l = lineBit q0 q1 l) :
    decodeSample m (~~~p0) (~~~p1) = decodeSample m (~~~q0) (~~~q1) := by
  refine InputDecoder.decodeSample_congr fun k => ?_
  rw [lineBit_not, lineBit_not, h _ (InputDecoder.readLine_isRead m k)]

/-- Settles O25: both commands complete under either levels, and write DECODE of the inverted sample. -/
theorem unreadLinesHaveNoEffect : Obligations.UnreadLinesHaveNoEffect := by
  unfold Obligations.UnreadLinesHaveNoEffect
  rintro s q0 q1 hf hagree i (rfl | ⟨rfl, hd⟩)
  · exact ⟨_, _, exec_init_of_running hf, exec_init_of_running (s := { s with pin0 := q0, pin1 := q1 }) hf,
      decodeSample_inverted_congr hagree⟩
  · exact ⟨_, _, exec_update_of_ready hf hd, exec_update_of_ready (s := { s with pin0 := q0, pin1 := q1 }) hf hd,
      decodeSample_inverted_congr hagree⟩

end Sys2Proof.Steps
end

section
/-! Which command writes what (spec/10_state.md): the frame of a command, field by field, and of a step. -/

namespace Sys2Proof.Frames

open Sys2Proof.Machine Sys2Proof.Sampler Sys2Proof.ChangeDetector Sys2Proof.Steps

/-! ### The frame of a command -/

/-- No command writes the parameters, the requests still to come, or IE: INIT restores it (R32, R106). -/
theorem exec_keeps_environment {i : Instr} {s t : State} (h : exec i s = .next t) :
    t.params = s.params ∧ t.pending = s.pending ∧ t.ie = s.ie := by
  obtain ⟨-, ⟨c, -, rfl, -⟩ | ⟨-, rfl⟩ | ⟨-, -, rfl⟩ | ⟨-, -, rfl⟩ | ⟨-, -, rfl⟩ | ⟨-, -, -, rfl⟩⟩ := exec_next_cases h <;>
    exact ⟨rfl, rfl, rfl⟩

theorem exec_keeps_ie {i : Instr} {s t : State} (h : exec i s = .next t) : t.ie = s.ie := by
  obtain ⟨-, -, hie⟩ := exec_keeps_environment h
  exact hie

theorem exec_keeps_params {i : Instr} {s t : State} (h : exec i s = .next t) : t.params = s.params := by
  obtain ⟨hparams, -⟩ := exec_keeps_environment h
  exact hparams

theorem exec_cur {i : Instr} {s t : State} (h : exec i s = .next t) :
    t.cur = s.cur ∨ (i = .init ∨ i = .update) ∧ t.cur = decodeSample s.params.lineMap (~~~s.pin0) (~~~s.pin1) := by
  obtain ⟨-, ⟨c, -, rfl, -⟩ | ⟨hi, rfl⟩ | ⟨hi, -, rfl⟩ | ⟨-, -, rfl⟩ | ⟨-, -, rfl⟩ | ⟨-, -, -, rfl⟩⟩ := exec_next_cases h
  case inr.inl => exact .inr ⟨.inl hi, rfl⟩
  case inr.inr.inl => exact .inr ⟨.inr hi, rfl⟩
  all_goals exact .inl rfl

theorem exec_first {i : Instr} {s t : State} (h : exec i s = .next t) :
    t.first = s.first ∨ (t.first = true ∧ i = .init) ∨ (t.first = false ∧ ∃ p, i = .build p) := by
  obtain ⟨-, ⟨c, -, rfl, -⟩ | ⟨hi, rfl⟩ | ⟨-, -, rfl⟩ | ⟨-, -, rfl⟩ | ⟨hi, -, rfl⟩ | ⟨hi, -, -, rfl⟩⟩ := exec_next_cases h
  case inr.inl => exact .inr (.inl ⟨rfl, hi⟩)
  case inr.inr.inr.inr.inl => exact .inr (.inr ⟨rfl, _, hi⟩)
  case inr.inr.inr.inr.inr => exact .inr (.inr ⟨rfl, _, hi⟩)
  all_goals exact .inl rfl

theorem exec_initDone {i : Instr} {s t : State} (h : exec i s = .next t) :
    t.initDone = s.initDone ∨ (t.initDone = true ∧ i = .init) := by
  obtain ⟨-, ⟨c, -, rfl, -⟩ | ⟨hi, rfl⟩ | ⟨-, -, rfl⟩ | ⟨-, -, rfl⟩ | ⟨-, -, rfl⟩ | ⟨-, -, -, rfl⟩⟩ := exec_next_cases h
  case inr.inl => exact .inr ⟨rfl, hi⟩
  all_goals exact .inl rfl

theorem exec_cfg {i : Instr} {s t : State} (h : exec i s = .next t) :
    t.cfg = s.cfg ∨ (i = .init ∧ t.cfg = allInputsPulledUp) := by
  obtain ⟨-, ⟨c, -, rfl, -⟩ | ⟨hi, rfl⟩ | ⟨-, -, rfl⟩ | ⟨-, -, rfl⟩ | ⟨-, -, rfl⟩ | ⟨-, -, -, rfl⟩⟩ := exec_next_cases h
  case inr.inl => exact .inr ⟨hi, rfl⟩
  all_goals exact .inl rfl

theorem exec_mem {i : Instr} {s t : State} (h : exec i s = .next t) :
    t.mem = s.mem ∨
      (i = .build true ∧ bufferOk s = true ∧ t.mem = s.mem.writeReport (bufOperand s) s.cur) := by
  obtain ⟨-, ⟨c, -, rfl, -⟩ | ⟨-, rfl⟩ | ⟨-, -, rfl⟩ | ⟨-, -, rfl⟩ | ⟨-, -, rfl⟩ | ⟨hi, -, hok, rfl⟩⟩ := exec_next_cases h
  case inr.inr.inr.inr.inr => exact .inr ⟨hi, hok, rfl⟩
  all_goals exact .inl rfl

theorem exec_result {i : Instr} {s t : State} (h : exec i s = .next t) :
    t.result = none ∨ (i = .haschg ∧ t.fault = .noFault) := by
  obtain ⟨hf, ⟨c, -, rfl, -⟩ | ⟨-, rfl⟩ | ⟨-, -, rfl⟩ | ⟨hi, -, rfl⟩ | ⟨-, -, rfl⟩ | ⟨-, -, -, rfl⟩⟩ := exec_next_cases h
  case inr.inr.inr.inl => exact .inr ⟨hi, hf⟩
  all_goals exact .inl rfl

theorem exec_init_effect {s t : State} (h : exec .init s = .next t) :
    t = { s with
      cfg := allInputsPulledUp, cur := decodeSample s.params.lineMap (~~~s.pin0) (~~~s.pin1)
      first := true, initDone := true, result := none } :=
  Host.Outcome.next.inj (h.symm.trans (exec_init_of_running (whileRunning_next h).1))

/-! ### The frame of a step -/

/-- A field that neither the presentation of a request nor a recorded fault touches changes in a step by its command alone. -/
theorem step_changes {α : Type} {field : State → α} (hpresent : ∀ s r rest, field (s.present r rest) = field s)
    (hfault : ∀ s c, field { s with fault := c, result := none } = field s) {s t : State} (h : step s = .next t)
    (hne : field t ≠ field s) :
    ∃ r rest i, s.pending = r :: rest ∧ decode r.cmd = .ok i ∧ exec i (s.present r rest) = .next t := by
  obtain ⟨-, ⟨-, rfl⟩ | ⟨r, rest, hp, ⟨e, -, rfl⟩ | ⟨i, hi, hexec⟩⟩⟩ := step_next_cases h
  · exact absurd rfl hne
  · exact absurd ((hfault _ _).trans (hpresent s r rest)) hne
  · exact ⟨r, rest, i, hp, hi, hexec⟩

/-- A step on a given request: it raised RESERVED_CMD, or it ran the request's command. -/
theorem step_request_cases {s t : State} {r : Request} {rest : List Request} (hp : s.pending = r :: rest)
    (h : step s = .next t) :
    (∃ e, decode r.cmd = .error e ∧ t = { s.present r rest with fault := .reservedCmd, result := none }) ∨
      ∃ i, decode r.cmd = .ok i ∧ exec i (s.present r rest) = .next t := by
  obtain ⟨-, ⟨hnil, -⟩ | ⟨r', rest', hp', hcases⟩⟩ := step_next_cases h
  · exact absurd (hp.symm.trans hnil) (List.cons_ne_nil r rest)
  · obtain ⟨rfl, rfl⟩ := List.cons.inj (hp.symm.trans hp')
    exact hcases

/-- Settles O38: the step that changes CUR runs INIT or UPDATE, on the levels it presents. -/
theorem onlyInitAndUpdateWriteCur : Obligations.OnlyInitAndUpdateWriteCur := by
  unfold Obligations.OnlyInitAndUpdateWriteCur
  intro s t h hne
  obtain ⟨r, rest, i, hp, hi, hexec⟩ := step_changes (field := State.cur) (fun _ _ _ => rfl) (fun _ _ => rfl) h hne
  obtain hsame | ⟨rfl | rfl, hcur⟩ := exec_cur hexec
  · exact absurd hsame hne
  · exact ⟨r, rest, hp, .inl hi, hcur⟩
  · exact ⟨r, rest, hp, .inr hi, hcur⟩

/-- With FIRST at another value every command but HASCHG does the same to the rest of the state. -/
theorem exec_ignores_first {i : Instr} {s t : State} (hi : i ≠ .haschg) (h : exec i s = .next t) (b : Bool) :
    ∃ b', exec i { s with first := b } = .next { t with first := b' } := by
  obtain ⟨hf, ⟨c, -, rfl, ⟨rfl, hne, hd⟩ | ⟨rfl, rfl, hd, hbad⟩⟩ | ⟨rfl, rfl⟩ | ⟨rfl, hd, rfl⟩ | ⟨rfl, -, -⟩ |
    ⟨rfl, hd, rfl⟩ | ⟨rfl, hd, hok, rfl⟩⟩ := exec_next_cases h
  · exact ⟨b, exec_of_uninitialised (s := { s with first := b }) hf hd hne⟩
  · exact ⟨b, exec_build_of_badBuffer (s := { s with first := b }) hf hd hbad⟩
  · exact ⟨true, exec_init_of_running (s := { s with first := b }) hf⟩
  · exact ⟨b, exec_update_of_ready (s := { s with first := b }) hf hd⟩
  · exact absurd rfl hi
  · exact ⟨false, exec_build_of_ready (s := { s with first := b }) hf hd (by simp)⟩
  · exact ⟨false, exec_build_of_ready (s := { s with first := b }) hf hd fun _ => hok⟩

/-- Settles O40: the writers of FIRST are the two cases of its frame, and its one reader is left out. -/
theorem firstIsSetByInitAndClearedByBuild : Obligations.FirstIsSetByInitAndClearedByBuild := by
  unfold Obligations.FirstIsSetByInitAndClearedByBuild
  refine ⟨fun s t h hne => ?writers, fun s t h => ?set, fun s t p h ht => ?cleared,
    fun s t i b hi h => exec_ignores_first hi h b⟩
  case writers =>
    obtain ⟨r, rest, i, hp, hi, hexec⟩ := step_changes (field := State.first) (fun _ _ _ => rfl) (fun _ _ => rfl) h hne
    obtain hsame | ⟨hset, rfl⟩ | ⟨hcleared, p, rfl⟩ := exec_first hexec
    · exact absurd hsame hne
    · exact ⟨r, rest, hp, .inl ⟨hset, hi⟩⟩
    · exact ⟨r, rest, hp, .inr ⟨hcleared, p, hi⟩⟩
  case set => rw [exec_init_effect h]
  case cleared =>
    obtain ⟨-, -, -, rfl⟩ := exec_build_completed h ht
    exact afterBuild_first p s

theorem step_changes_initDone {s t : State} (h : step s = .next t) (hne : t.initDone ≠ s.initDone) :
    t.initDone = true ∧ ∃ r rest, s.pending = r :: rest ∧ decode r.cmd = .ok .init := by
  obtain ⟨r, rest, i, hp, hi, hexec⟩ := step_changes (field := State.initDone) (fun _ _ _ => rfl) (fun _ _ => rfl) h hne
  obtain hsame | ⟨hset, rfl⟩ := exec_initDone hexec
  · exact absurd hsame hne
  · exact ⟨hset, r, rest, hp, hi⟩

theorem step_keeps_initDone {s t : State} (h : step s = .next t) (hd : s.initDone = true) : t.initDone = true := by
  by_cases hsame : t.initDone = s.initDone
  · rw [hsame, hd]
  · exact (step_changes_initDone h hsame).1

/-- Settles O41: INIT is the only writer of INIT_DONE and sets it, and before it the precheck turns every other command
away. -/
theorem initDoneIsSetByInitAndKept : Obligations.InitDoneIsSetByInitAndKept := by
  unfold Obligations.InitDoneIsSetByInitAndKept
  refine ⟨fun s t h => ?_, fun s t => step_keeps_initDone, fun s t h hne => (step_changes_initDone h hne).2,
    fun s i => exec_of_uninitialised⟩
  rw [exec_init_effect h]

theorem allInputsPulledUp_line (i : Fin 8) :
    allInputsPulledUp.g0[i] = ⟨.input, true⟩ ∧ allInputsPulledUp.g1[i] = ⟨.input, true⟩ := by
  simp [allInputsPulledUp]

/-- Settles O42: the step that changes CFG runs INIT, which configures every line. -/
theorem onlyInitConfiguresLines : Obligations.OnlyInitConfiguresLines := by
  unfold Obligations.OnlyInitConfiguresLines
  intro s t h hne
  obtain ⟨r, rest, i, hp, hi, hexec⟩ := step_changes (field := State.cfg) (fun _ _ _ => rfl) (fun _ _ => rfl) h hne
  obtain hsame | ⟨rfl, hcfg⟩ := exec_cfg hexec
  · exact absurd hsame hne
  · exact ⟨r, rest, hp, hi, hcfg ▸ allInputsPulledUp_line⟩

/-- Settles O43: no command writes IE, and a step's command starts with the IE of its request. -/
theorem interruptEnableIsRestored : Obligations.InterruptEnableIsRestored := by
  unfold Obligations.InterruptEnableIsRestored
  refine ⟨fun s t i => exec_keeps_ie, fun s t r rest hp h => ?_⟩
  obtain ⟨e, -, rfl⟩ | ⟨i, -, hexec⟩ := step_request_cases hp h
  · rfl
  · exact exec_keeps_ie hexec

/-- Settles O44: the step that changes a byte runs BUILD with a buffer, and its four writes leave every byte outside the
buffer as it was. -/
theorem onlyBuildWithBufferWritesMemory : Obligations.OnlyBuildWithBufferWritesMemory := by
  unfold Obligations.OnlyBuildWithBufferWritesMemory
  intro s t a h hne
  obtain ⟨r, rest, i, hp, hi, hexec⟩ :=
    step_changes (field := fun s => s.mem.read a) (fun _ _ _ => rfl) (fun _ _ => rfl) h hne
  obtain hsame | ⟨rfl, -, hmem⟩ := exec_mem hexec
  · exact absurd (congrArg (Memory.read a) hsame) hne
  · have hinside : ¬(a < bufOperand (s.present r rest) ∨ bufOperand (s.present r rest) + reportSize ≤ a) := by
      intro houtside
      rw [hmem, Memory.read_writeReport_outside _ _ houtside] at hne
      exact hne rfl
    obtain ⟨hlow, hhigh⟩ := not_or.1 hinside
    exact ⟨r, rest, hp, hi, Nat.le_of_not_lt hlow, Nat.lt_of_not_le hhigh⟩

/-- Settles O45: every command but a completed HASCHG, and every raised fault, leaves RESULT undriven. -/
theorem onlyHaschgDrivesResult : Obligations.OnlyHaschgDrivesResult := by
  unfold Obligations.OnlyHaschgDrivesResult
  intro s t r rest hp h hne
  obtain ⟨e, -, rfl⟩ | ⟨i, hi, hexec⟩ := step_request_cases hp h
  · exact absurd rfl hne
  · obtain hnone | ⟨rfl, hf⟩ := exec_result hexec
    · exact absurd hnone hne
    · exact ⟨hi, hf⟩

/-- Settles O53: the presentation of a request, a raised fault and every command leave the parameters as they were. -/
theorem parametersAreFixed : Obligations.ParametersAreFixed := by
  unfold Obligations.ParametersAreFixed
  intro s t h
  by_contra hne
  obtain ⟨r, rest, i, -, -, hexec⟩ := step_changes (field := State.params) (fun _ _ _ => rfl) (fun _ _ => rfl) h hne
  have hparams := exec_keeps_params hexec
  exact hne hparams

end Sys2Proof.Frames
end

section
/-! The invariants (spec/10_state.md section 3): what holds at reset and is kept by every step. -/

namespace Sys2Proof.Invariants

open Sys2Proof.Machine Sys2Proof.ChangeDetector Sys2Proof.Steps Sys2Proof.Frames

/-- A predicate is kept by every step if the presentation of a request, RESERVED_CMD and every command keep it. -/
theorem step_keeps {P : State → Prop} (hpresent : ∀ s r rest, P s → P (s.present r rest))
    (hillegal : ∀ s, P s → P { s with fault := .reservedCmd, result := none })
    (hexec : ∀ i s t, P s → exec i s = .next t → P t) {s t : State} (hs : P s) (h : step s = .next t) : P t := by
  obtain ⟨-, ⟨-, rfl⟩ | ⟨r, rest, -, ⟨e, -, rfl⟩ | ⟨i, -, hrun⟩⟩⟩ := step_next_cases h
  · exact hs
  · exact hillegal _ (hpresent s r rest hs)
  · exact hexec i _ t (hpresent s r rest hs) hrun

/-! ### The snapshots (R31) -/

/-- INIT and UPDATE write what DECODE gives, BUILD copies a legal CUR, and INIT sets FIRST before DLV is asked for. -/
theorem exec_keeps_snapshotsLegal (i : Instr) (s t : State) (hs : snapshotsLegal s) (h : exec i s = .next t) :
    snapshotsLegal t := by
  obtain ⟨-, ⟨c, -, rfl, -⟩ | ⟨-, rfl⟩ | ⟨-, hd, rfl⟩ | ⟨-, -, rfl⟩ | ⟨-, hd, rfl⟩ | ⟨-, hd, -, rfl⟩⟩ := exec_next_cases h
  · exact hs
  · exact fun _ => ⟨InputDecoder.decodeSample_legal _ _ _, nofun⟩
  · exact fun _ => ⟨InputDecoder.decodeSample_legal _ _ _, (hs hd).2⟩
  · exact hs
  · exact fun _ => ⟨(hs hd).1, fun _ => (hs hd).1⟩
  · exact fun _ => ⟨(hs hd).1, fun _ => (hs hd).1⟩

/-- Settles O48, by the step rule for the snapshots. -/
theorem snapshotsStayLegal : Obligations.SnapshotsStayLegal := by
  unfold Obligations.SnapshotsStayLegal
  exact fun s t hs h => step_keeps (fun _ _ _ => id) (fun _ => id) exec_keeps_snapshotsLegal hs h

/-! ### The lines, the memory and the fault code (R26, R50, R200) -/

theorem exec_keeps_linesConfigured {i : Instr} {s t : State} (hs : linesConfigured s) (h : exec i s = .next t) :
    linesConfigured t := by
  intro hd
  obtain hcfg | ⟨-, hcfg⟩ := exec_cfg h
  · obtain hsame | ⟨-, rfl⟩ := exec_initDone h
    · rw [hcfg, hs (hsame ▸ hd)]
    · rw [exec_init_effect h]
  · exact hcfg

/-- A buffer that passes its check lies in the address space (R54). -/
theorem bufOperand_add_reportSize_le {s : State} (h : bufferOk s = true) :
    bufOperand s + reportSize ≤ 2 ^ s.params.addrW := by
  have hpos := Nat.two_pow_pos s.params.addrW
  obtain ⟨-, hfits⟩ := (bufferOk_iff s).1 h
  unfold bufOperand reportSize
  omega

theorem exec_keeps_memoryCanonical {i : Instr} {s t : State} (hs : memoryCanonical s) (h : exec i s = .next t) :
    memoryCanonical t := by
  obtain ⟨hwf, hbound⟩ := hs
  unfold memoryCanonical
  rw [exec_keeps_params h]
  obtain hmem | ⟨-, hok, hmem⟩ := exec_mem h <;> rw [hmem]
  · exact ⟨hwf, hbound⟩
  · refine ⟨Memory.writeReport_wf hwf _ _, fun c hc => ?_⟩
    obtain ⟨-, hhigh⟩ | hold := Memory.mem_writeReport hc
    · exact Nat.lt_of_lt_of_le hhigh (bufOperand_add_reportSize_le hok)
    · exact hbound c hold

theorem faultFitsInit_of_running {s : State} (h : s.fault = .noFault) : faultFitsInit s := by
  simp [faultFitsInit, h]

theorem faultFitsInit_of_reservedCmd {s : State} (h : s.fault = .reservedCmd) : faultFitsInit s := by
  simp [faultFitsInit, h]

/-- The two faults a command raises stand behind the test of INIT_DONE they fit (R204). -/
theorem faultFitsInit_of_exec {i : Instr} {s t : State} (h : exec i s = .next t) : faultFitsInit t := by
  by_cases ht : t.fault = .noFault
  · exact faultFitsInit_of_running ht
  · obtain ⟨heq, ⟨hcode, hd, -⟩ | ⟨hcode, hd, -, -⟩⟩ := exec_raised h ht <;> rw [hcode] at heq <;> subst heq
    · exact ⟨fun _ => hd, nofun⟩
    · exact ⟨nofun, fun _ => hd⟩

theorem exec_keeps_machineInv (i : Instr) (s t : State) (hs : machineInv s) (h : exec i s = .next t) : machineInv t := by
  obtain ⟨hlines, hmem, -⟩ := hs
  exact ⟨exec_keeps_linesConfigured hlines h, exec_keeps_memoryCanonical hmem h, faultFitsInit_of_exec h⟩

theorem illegal_keeps_machineInv (s : State) (hs : machineInv s) :
    machineInv { s with fault := .reservedCmd, result := none } := by
  obtain ⟨hlines, hmem, -⟩ := hs
  exact ⟨hlines, hmem, faultFitsInit_of_reservedCmd rfl⟩

/-- Settles O49, by the step rule for the three parts of the invariant. -/
theorem stepKeepsTheMachineInvariant : Obligations.StepKeepsTheMachineInvariant := by
  unfold Obligations.StepKeepsTheMachineInvariant
  exact fun s t hs h => step_keeps (fun _ _ _ => id) illegal_keeps_machineInv exec_keeps_machineInv hs h

/-! ### Reset (R34) -/

/-- Settles O46: the reset state's own fields. -/
theorem resetIsUninitialisedAndUnfaulted : Obligations.ResetIsUninitialisedAndUnfaulted := by
  unfold Obligations.ResetIsUninitialisedAndUnfaulted
  exact ⟨rfl, rfl, rfl, rfl⟩

/-- Settles O47: INIT has not run at reset, nothing is listed in memory and no fault is recorded. -/
theorem resetMeetsTheInvariants : Obligations.ResetMeetsTheInvariants := by
  unfold Obligations.ResetMeetsTheInvariants
  have huninitialised : State.reset.initDone ≠ true := by decide
  have hmemory : memoryCanonical State.reset := ⟨List.Pairwise.nil, fun c hc => absurd hc List.not_mem_nil⟩
  exact ⟨fun hd => absurd hd huninitialised, fun hd => absurd hd huninitialised, hmemory, faultFitsInit_of_running rfl⟩

/-! ### The history behind FIRST and DLV (R30) -/

theorem reportSinceInit_of_idle {g : Option Snapshot} {s t : State} (hp : s.pending = []) :
    reportSinceInit g s t = g := by
  simp [reportSinceInit, nextRequest, hp]

theorem reportSinceInit_of_fault {g : Option Snapshot} {s t : State} (ht : t.fault ≠ .noFault) :
    reportSinceInit g s t = g := if_neg ht

section Command

variable {g : Option Snapshot} {s t : State} {r : Request} {rest : List Request} (hp : s.pending = r :: rest)
include hp

theorem reportSinceInit_of_build {p : Bool} (hd : decode r.cmd = .ok (.build p)) (ht : t.fault = .noFault) :
    reportSinceInit g s t = some s.cur := by
  simp [reportSinceInit, nextRequest, hp, hd, ht]

theorem reportSinceInit_of_readOnly {i : Instr} (hd : decode r.cmd = .ok i) (hi : i = .update ∨ i = .haschg) :
    reportSinceInit g s t = g := by
  obtain rfl | rfl := hi <;> simp [reportSinceInit, nextRequest, hp, hd]

/-- A command keeps R30: INIT sets FIRST, BUILD makes DLV the CUR it records, and the others change neither. -/
theorem exec_keeps_deliveredFits {i : Instr} (hg : deliveredFits g s) (hd : decode r.cmd = .ok i)
    (h : exec i (s.present r rest) = .next t) : deliveredFits (reportSinceInit g s t) t := by
  obtain ⟨hf, ⟨c, hc, rfl, -⟩ | ⟨-, rfl⟩ | ⟨hi, -, rfl⟩ | ⟨hi, -, rfl⟩ | ⟨rfl, -, rfl⟩ | ⟨rfl, -, -, rfl⟩⟩ :=
    exec_next_cases h
  · rw [reportSinceInit_of_fault (by exact hc)]
    exact hg
  · exact fun _ => nofun
  · rw [reportSinceInit_of_readOnly hp hd (.inl hi)]
    exact hg
  · rw [reportSinceInit_of_readOnly hp hd (.inr hi)]
    exact hg
  · exact fun _ _ => reportSinceInit_of_build hp hd hf
  · exact fun _ _ => reportSinceInit_of_build hp hd hf

end Command

/-- Settles O50: INIT has not run at reset; an idle step and a fault leave the history as it was, and a command keeps R30. -/
theorem deliveredIsCurAtTheLastBuild : Obligations.DeliveredIsCurAtTheLastBuild := by
  unfold Obligations.DeliveredIsCurAtTheLastBuild
  refine ⟨fun hd => absurd hd (by decide), fun g s t hg h => ?_⟩
  obtain ⟨-, ⟨hp, rfl⟩ | ⟨r, rest, hp, ⟨e, -, rfl⟩ | ⟨i, hd, hexec⟩⟩⟩ := step_next_cases h
  · rw [reportSinceInit_of_idle hp]
    exact hg
  · rw [reportSinceInit_of_fault (by simp)]
    exact hg
  · exact exec_keeps_deliveredFits hp hg hd hexec

end Sys2Proof.Invariants
end

section
/-! Runs over the host's requests: the comparison between INIT and BUILD (spec/42_change_detector.md) and POLL. -/

namespace Sys2Proof.Runs

open Sys2Proof.Machine Sys2Proof.Sampler Sys2Proof.ChangeDetector Sys2Proof.Encoding Sys2Proof.Steps Sys2Proof.Frames

/-! ### Runs cut in two, and an invariant along a list of requests -/

theorem coreRun_add_of_next (M : Host.Core) {m : Nat} {s u : M.State} (h : M.run m s = .next u) (n : Nat) :
    M.run (m + n) s = M.run n u := by
  induction m generalizing s with
  | zero =>
    cases h
    rw [Nat.zero_add]
  | succ m ih =>
    rw [Nat.add_right_comm, Host.Core.run]
    rw [Host.Core.run] at h
    split at h
    · exact ih h
    · cases h
    · cases h

theorem run_add_of_next {m : Nat} {s u : State} (h : Host.Core.run Sys2Proof.core m s = .next u) (n : Nat) :
    Host.Core.run Sys2Proof.core (m + n) s = Host.Core.run Sys2Proof.core n u :=
  coreRun_add_of_next Sys2Proof.core h n

/-- The next request runs command `i` and leaves the rest of the list. -/
theorem step_of_exec {s t : State} {r : Request} {rest : List Request} {i : Instr} (hp : s.pending = r :: rest)
    (hi : decode r.cmd = .ok i) (h : exec i (s.present r rest) = .next t) : step s = .next t ∧ t.pending = rest := by
  obtain ⟨-, hpending, -⟩ := exec_keeps_environment h
  exact ⟨(step_of_request hp hi).trans h, hpending⟩

/-- A predicate that the step on each of the requests keeps holds when they have all run. -/
theorem run_requests {P : State → Prop} {requests rest : List Request}
    (hstep : ∀ r ∈ requests, ∀ s tail, P s → s.pending = r :: tail → ∃ t, step s = .next t ∧ t.pending = tail ∧ P t)
    {s : State} (hs : P s) (hp : s.pending = requests ++ rest) :
    ∃ u : State, Host.Core.run Sys2Proof.core requests.length s = .next u ∧ u.pending = rest ∧ P u := by
  induction requests generalizing s with
  | nil => exact ⟨s, rfl, hp, hs⟩
  | cons r requests ih =>
    obtain ⟨t, hrun, hpt, ht⟩ := hstep r List.mem_cons_self s (requests ++ rest) hs hp
    obtain ⟨u, hu⟩ := ih (fun r hr => hstep r (List.mem_cons_of_mem _ hr)) ht hpt
    exact ⟨u, by rwa [List.length_cons, run_succ_of_next hrun]⟩

/-! ### From INIT to the next BUILD (R162) -/

/-- A running block between an INIT and the next BUILD. -/
structure ForcesChange (s : State) : Prop where
  running : s.fault = .noFault
  initialised : s.initDone = true
  firstSet : s.first = true

theorem forcesChange_of_exec_init {s t : State} (h : exec .init s = .next t) : ForcesChange t := by
  obtain ⟨hf, -⟩ := whileRunning_next h
  rw [exec_init_effect h]
  exact ⟨hf, rfl, rfl⟩

/-- INIT, UPDATE and HASCHG leave FIRST set (R23). -/
theorem exec_keeps_forcesChange {s : State} (hs : ForcesChange s) {i : Instr}
    (hi : i = .init ∨ i = .update ∨ i = .haschg) : ∃ t, exec i s = .next t ∧ ForcesChange t := by
  obtain ⟨hf, hd, hfirst⟩ := hs
  obtain rfl | rfl | rfl := hi
  · obtain ⟨t, h⟩ := exec_completes hf .init
    exact ⟨t, h, forcesChange_of_exec_init h⟩
  · exact ⟨_, exec_update_of_ready hf hd, hf, hd, hfirst⟩
  · exact ⟨_, exec_haschg_of_ready hf hd, hf, hd, hfirst⟩

theorem step_keeps_forcesChange {r : Request}
    (hr : decode r.cmd = .ok .init ∨ decode r.cmd = .ok .update ∨ decode r.cmd = .ok .haschg) {s : State}
    {tail : List Request} (hs : ForcesChange s) (hp : s.pending = r :: tail) :
    ∃ t, step s = .next t ∧ t.pending = tail ∧ ForcesChange t := by
  obtain ⟨i, hi, hkind⟩ : ∃ i, decode r.cmd = .ok i ∧ (i = .init ∨ i = .update ∨ i = .haschg) := by
    obtain h | h | h := hr <;> exact ⟨_, h, by simp⟩
  obtain ⟨hf, hd, hfirst⟩ := hs
  obtain ⟨t, hexec, ht⟩ := exec_keeps_forcesChange (s := s.present r tail) ⟨hf, hd, hfirst⟩ hkind
  obtain ⟨hstep, hpt⟩ := step_of_exec hp hi hexec
  exact ⟨t, hstep, hpt, ht⟩

/-- A HASCHG request on a ready block drives the comparison. -/
theorem run_haschg {s : State} {h : Request} (hf : s.fault = .noFault) (hd : s.initDone = true) (hp : s.pending = [h])
    (hh : decode h.cmd = .ok .haschg) :
    ∃ u : State, Host.Core.run Sys2Proof.core 1 s = .next u ∧ u.result = some (changed s) := by
  have hexec := exec_haschg_of_ready (s := s.present h []) hf hd
  obtain ⟨hstep, -⟩ := step_of_exec hp hh hexec
  exact ⟨_, run_succ_of_next hstep 0, rfl⟩

/-- Settles O29: FIRST stays set over the requests between, and with it HASCHG returns 1. -/
theorem forcedChangeLastsUntilBuild : Obligations.ForcedChangeLastsUntilBuild := by
  unfold Obligations.ForcedChangeLastsUntilBuild
  intro s t between h _ hinit hp hbetween hh
  obtain ⟨u, hrun, hpu, hu⟩ := run_requests (P := ForcesChange)
    (fun r hr s tail => step_keeps_forcesChange (hbetween r hr)) (forcesChange_of_exec_init hinit) hp
  obtain ⟨w, hw, hresult⟩ := run_haschg hu.running hu.initialised hpu hh
  refine ⟨w, (run_add_of_next hrun 1).trans hw, ?_⟩
  rw [hresult, changed_eq, hu.firstSet, Bool.true_or]

/-! ### From a BUILD on (R169) -/

/-- A running block after a BUILD that delivered `d`, with no INIT or BUILD since. -/
structure Delivered (p : Params) (d : Snapshot) (s : State) : Prop where
  running : s.fault = .noFault
  initialised : s.initDone = true
  firstCleared : s.first = false
  delivered : s.dlv = d
  parameters : s.params = p

theorem delivered_of_exec_build {p : Bool} {s t : State} (h : exec (.build p) s = .next t) (ht : t.fault = .noFault) :
    Delivered s.params s.cur t ∧ t.cur = s.cur := by
  have hparams := exec_keeps_params h
  obtain ⟨-, hd, -, rfl⟩ := exec_build_completed h ht
  exact ⟨⟨ht, (afterBuild_initDone p s).trans hd, afterBuild_first p s, afterBuild_dlv p s, hparams⟩, afterBuild_cur p s⟩

theorem changed_of_delivered {p : Params} {d : Snapshot} {s : State} (hs : Delivered p d s) :
    changed s = decide (s.cur ≠ d) := by
  rw [changed_of_not_first hs.firstCleared, hs.delivered]

section Requests

variable {p : Params} {d : Snapshot} {r : Request} {s : State} {tail : List Request} (hs : Delivered p d s)
  (hp : s.pending = r :: tail)
include hs hp

theorem step_update_of_delivered (hr : decode r.cmd = .ok .update) :
    ∃ t, step s = .next t ∧ t.pending = tail ∧ Delivered p d t ∧
      t.cur = decodeSample p.lineMap (~~~r.pin0) (~~~r.pin1) := by
  obtain ⟨hf, hd, hfirst, hdlv, rfl⟩ := hs
  have hexec := exec_update_of_ready (s := s.present r tail) hf hd
  obtain ⟨hstep, hpt⟩ := step_of_exec hp hr hexec
  exact ⟨_, hstep, hpt, ⟨hf, hd, hfirst, hdlv, rfl⟩, rfl⟩

theorem step_haschg_of_delivered (hr : decode r.cmd = .ok .haschg) :
    ∃ t, step s = .next t ∧ t.pending = tail ∧ Delivered p d t ∧ t.cur = s.cur := by
  obtain ⟨hf, hd, hfirst, hdlv, rfl⟩ := hs
  have hexec := exec_haschg_of_ready (s := s.present r tail) hf hd
  obtain ⟨hstep, hpt⟩ := step_of_exec hp hr hexec
  exact ⟨_, hstep, hpt, ⟨hf, hd, hfirst, hdlv, rfl⟩, rfl⟩

theorem step_keeps_delivered (hr : decode r.cmd = .ok .update ∨ decode r.cmd = .ok .haschg) :
    ∃ t, step s = .next t ∧ t.pending = tail ∧ Delivered p d t := by
  obtain hr | hr := hr
  · obtain ⟨t, hstep, hpt, ht, -⟩ := step_update_of_delivered hs hp hr
    exact ⟨t, hstep, hpt, ht⟩
  · obtain ⟨t, hstep, hpt, ht, -⟩ := step_haschg_of_delivered hs hp hr
    exact ⟨t, hstep, hpt, ht⟩

end Requests

/-- HASCHGs alone change neither CUR nor DLV, so the last of them compares the two as they stood. -/
theorem run_haschgs_of_delivered {p : Params} {d : Snapshot} {s : State} {after : List Request} {h : Request}
    (hs : Delivered p d s) (hafter : ∀ r ∈ after, decode r.cmd = .ok .haschg) (hh : decode h.cmd = .ok .haschg)
    (hp : s.pending = after ++ [h]) :
    ∃ w : State, Host.Core.run Sys2Proof.core (after.length + 1) s = .next w ∧ w.result = some (decide (s.cur ≠ d)) := by
  obtain ⟨u, hrun, hpu, hu, hcur⟩ := run_requests (P := fun u => Delivered p d u ∧ u.cur = s.cur)
    (fun r hr u tail ⟨hu, hcur⟩ hpu => by
      obtain ⟨t, hstep, hpt, ht, hsame⟩ := step_haschg_of_delivered hu hpu (hafter r hr)
      exact ⟨t, hstep, hpt, ht, hsame.trans hcur⟩) ⟨hs, rfl⟩ hp
  obtain ⟨w, hw, hresult⟩ := run_haschg hu.running hu.initialised hpu hh
  refine ⟨w, (run_add_of_next hrun 1).trans hw, ?_⟩
  rw [hresult, changed_of_delivered hu, hcur]

/-- Settles O30: DLV stays the delivered snapshot, and CUR is that snapshot until an UPDATE writes its sample, which the
HASCHGs after it leave. -/
theorem haschgAfterBuildComparesWithDelivered : Obligations.HaschgAfterBuildComparesWithDelivered := by
  unfold Obligations.HaschgAfterBuildComparesWithDelivered
  intro s t p before after u h hbuild ht hu hh hbefore hafter
  obtain ⟨hdelivered, hcur⟩ := delivered_of_exec_build hbuild ht
  refine ⟨fun hp => ?noUpdate, fun hp => ?afterUpdate⟩
  case noUpdate =>
    obtain ⟨w, hw, hresult⟩ := run_haschgs_of_delivered hdelivered hafter hh hp
    exact ⟨w, hw, by simpa [hcur] using hresult⟩
  case afterUpdate =>
    obtain ⟨v, hrun, hpv, hv⟩ := run_requests (P := Delivered s.params s.cur)
      (fun r hr s tail hs hp => step_keeps_delivered hs hp (hbefore r hr)) hdelivered hp
    obtain ⟨v', hstep, hpv', hv', hsample⟩ := step_update_of_delivered hv hpv hu
    obtain ⟨w, hw, hresult⟩ := run_haschgs_of_delivered hv' hafter hh hpv'
    refine ⟨w, ?_, by rw [hresult, hsample]⟩
    calc Host.Core.run Sys2Proof.core (before.length + after.length + 2) t
      _ = Host.Core.run Sys2Proof.core (before.length + (after.length + 1 + 1)) t := by rw [Nat.add_assoc]
      _ = Host.Core.run Sys2Proof.core (after.length + 1 + 1) v := run_add_of_next hrun _
      _ = Host.Core.run Sys2Proof.core (after.length + 1) v' := run_succ_of_next hstep _
      _ = .next w := hw

end Sys2Proof.Runs
end

section
/-! POLL (spec/30_encoding.md section 4): UPDATE, HASCHG, and a BUILD where the comparison found a change. -/

namespace Sys2Proof.Poll

open Sys2Proof.Machine Sys2Proof.Sampler Sys2Proof.ChangeDetector Sys2Proof.Encoding Sys2Proof.Steps

theorem andThen_next (s : State) (f : State → Host.Outcome State Fault Refusal) : andThen (.next s) f = f s := rfl

theorem issue_encode (r : Request) (i : Instr) (s : State) :
    issue { r with cmd := encode i } s = exec i (s.present { r with cmd := encode i } s.pending) :=
  issue_of_decode (decode_encode i)

/-- What POLL's UPDATE leaves. -/
def sampled (upd : Request) (s : State) : State :=
  (sampleIntoCur (s.present { upd with cmd := encode .update } s.pending)).driveResult none

/-- What POLL's HASCHG leaves after that. -/
def compared (upd chk : Request) (s : State) : State :=
  ((sampled upd s).present { chk with cmd := encode .haschg } s.pending).driveResult (some (changed (sampled upd s)))

theorem issue_update_of_ready {s : State} (hf : s.fault = .noFault) (hd : s.initDone = true) (upd : Request) :
    issue { upd with cmd := encode .update } s = .next (sampled upd s) := by
  rw [issue_encode]
  exact exec_update_of_ready hf hd

theorem issue_haschg_of_ready {s : State} (hf : s.fault = .noFault) (hd : s.initDone = true) (upd chk : Request) :
    issue { chk with cmd := encode .haschg } (sampled upd s) = .next (compared upd chk s) := by
  rw [issue_encode]
  exact exec_haschg_of_ready hf hd

/-- The state in which POLL's BUILD finds its request on the ports. -/
def reporting (upd chk rep : Request) (s : State) : State :=
  (compared upd chk s).present { rep with cmd := encode (.build true) } s.pending

theorem reporting_cur (upd chk rep : Request) (s : State) :
    (reporting upd chk rep s).cur = decodeSample s.params.lineMap (~~~upd.pin0) (~~~upd.pin1) := rfl

theorem reporting_mem (upd chk rep : Request) (s : State) : (reporting upd chk rep s).mem = s.mem := rfl

theorem bufOperand_reporting (upd chk rep : Request) (s : State) :
    bufOperand (reporting upd chk rep s) = rep.bufAddr % 2 ^ s.params.addrW := rfl

theorem issue_build_of_ready {s : State} (hf : s.fault = .noFault) (hd : s.initDone = true) (upd chk : Request)
    {rep : Request} (hmem : rep.memOk = true)
    (hfits : rep.bufAddr % 2 ^ s.params.addrW + 3 ≤ 2 ^ s.params.addrW - 1) :
    issue { rep with cmd := encode (.build true) } (compared upd chk s) =
      .next (afterBuild true (reporting upd chk rep s)) := by
  rw [issue_encode]
  exact exec_build_of_ready (s := reporting upd chk rep s) hf hd fun _ => (bufferOk_iff _).2 ⟨hmem, hfits⟩

/-- The report POLL's BUILD stores is the fresh snapshot, at the request's buffer and nowhere else. -/
theorem mem_afterBuild_reporting (upd chk rep : Request) (s : State) :
    (afterBuild true (reporting upd chk rep s)).mem =
      s.mem.writeReport (rep.bufAddr % 2 ^ s.params.addrW)
        (decodeSample s.params.lineMap (~~~upd.pin0) (~~~upd.pin1)) := by
  rw [afterBuild_present_mem, bufOperand_reporting, reporting_cur, reporting_mem]

/-- POLL on a ready block, its two first commands run. -/
theorem poll_of_ready {s : State} (hf : s.fault = .noFault) (hd : s.initDone = true) (upd chk rep : Request) :
    poll upd chk rep s =
      if changed (sampled upd s) then issue { rep with cmd := encode (.build true) } (compared upd chk s)
      else .next (compared upd chk s) := by
  rw [poll, issue_update_of_ready hf hd, andThen_next, issue_haschg_of_ready hf hd, andThen_next]
  simp [compared]

/-- POLL finds a change exactly when FIRST is set or the fresh snapshot is new (R160). -/
theorem changed_sampled_iff (upd : Request) (s : State) :
    changed (sampled upd s) = true ↔
      s.first = true ∨ decodeSample s.params.lineMap (~~~upd.pin0) (~~~upd.pin1) ≠ s.dlv := by
  rw [changed_eq, Bool.or_eq_true, decide_eq_true_iff]
  exact Iff.rfl

/-- Settles O37: where POLL finds a change its BUILD stores the fresh snapshot and makes it the baseline; where it finds none
FIRST is clear and the baseline is that snapshot already. -/
theorem pollTransmitsExactlyWhenChanged : Obligations.PollTransmitsExactlyWhenChanged := by
  unfold Obligations.PollTransmitsExactlyWhenChanged
  intro s upd chk rep hf hd hmem hfits v buf
  have hiff : changed (sampled upd s) = true ↔ s.first = true ∨ v ≠ s.dlv := changed_sampled_iff upd s
  rw [poll_of_ready hf hd]
  by_cases hchanged : changed (sampled upd s) = true
  · rw [if_pos hchanged, issue_build_of_ready hf hd upd chk hmem hfits]
    refine ⟨_, rfl, hf, rfl, rfl, rfl, rfl, fun _ => ?_, fun hfirst hsame => ?_⟩
    · rw [mem_afterBuild_reporting]
      exact ⟨Memory.read_writeReport_byte _ _ _, fun a ha => Memory.read_writeReport_outside _ _ ha⟩
    · obtain hset | hnew := hiff.1 hchanged
      · exact absurd (hfirst.symm.trans hset) Bool.false_ne_true
      · exact absurd hsame hnew
  · rw [if_neg hchanged]
    obtain ⟨hfirst, hsame⟩ := not_or.1 (hiff.not.1 hchanged)
    exact ⟨_, rfl, hf, rfl, (not_not.1 hsame).symm, Bool.eq_false_iff.2 hfirst, rfl,
      fun hnew => absurd (hiff.2 hnew) hchanged, fun _ _ => rfl⟩

end Sys2Proof.Poll
end

section
/-! Whole runs (spec/10_state.md section 6, spec/60_exceptions.md section 4): the host's contract, and the registers no host can
see before INIT. -/

namespace Sys2Proof.WholeRuns

open Sys2Proof.Machine Sys2Proof.Sampler Sys2Proof.ChangeDetector Sys2Proof.Steps Sys2Proof.Frames

/-! ### The host's contract (R206) -/

/-- The contract's demand on one command at the state that presents it: INIT first, and a good buffer where one is present. -/
def Permitted (i : Instr) (s : State) : Prop :=
  i = .init ∨ (s.initDone = true ∧ (i = .build true → bufferOk s = true))

/-- A command records no fault exactly when it is permitted. -/
theorem exec_fault_eq_noFault_iff {i : Instr} {s t : State} (h : exec i s = .next t) :
    t.fault = .noFault ↔ Permitted i s := by
  constructor
  · intro ht
    obtain ⟨-, ⟨c, hc, rfl, -⟩ | ⟨rfl, -⟩ | ⟨rfl, hd, -⟩ | ⟨rfl, hd, -⟩ | ⟨rfl, hd, -⟩ | ⟨rfl, hd, hok, -⟩⟩ :=
      exec_next_cases h
    · exact absurd ht hc
    · exact .inl rfl
    · exact .inr ⟨hd, nofun⟩
    · exact .inr ⟨hd, nofun⟩
    · exact .inr ⟨hd, nofun⟩
    · exact .inr ⟨hd, fun _ => hok⟩
  · intro hpermitted
    by_contra ht
    obtain ⟨-, ⟨-, hd, hi⟩ | ⟨-, -, rfl, hbad⟩⟩ := exec_raised h ht
    · obtain rfl | ⟨hdone, -⟩ := hpermitted
      · exact hi rfl
      · exact Bool.false_ne_true (hd.symm.trans hdone)
    · obtain hinit | ⟨-, hok⟩ := hpermitted
      · cases hinit
      · exact Bool.false_ne_true (hbad.symm.trans (hok rfl))

theorem exec_initDone_eq {i : Instr} {s t : State} (h : exec i s = .next t) :
    t.initDone = (decide (i = .init) || s.initDone) := by
  by_cases hi : i = .init
  · subst hi
    rw [exec_init_effect h, decide_eq_true rfl, Bool.true_or]
  · obtain hsame | ⟨-, hinit⟩ := exec_initDone h
    · rw [hsame, decide_eq_false hi, Bool.false_or]
    · exact absurd hinit hi

theorem contractKept_illegal {p : Params} {d : Bool} {r : Request} {rest : List Request} {e : DecodeError}
    (he : decode r.cmd = .error e) : contractKept p d (r :: rest) = false := by
  simp [contractKept, he]

/-- The contract, one request at a time. -/
theorem contractKept_cons {s : State} {r : Request} {rest : List Request} {i : Instr} (hi : decode r.cmd = .ok i) :
    contractKept s.params s.initDone (r :: rest) = true ↔
      Permitted i (s.present r rest) ∧ contractKept s.params (decide (i = .init) || s.initDone) rest = true := by
  cases i with
  | init => simp [contractKept, hi, Permitted]
  | update => simp [contractKept, hi, Permitted]
  | haschg => simp [contractKept, hi, Permitted]
  | build present => cases present <;> simp [contractKept, hi, Permitted, bufferOk, bufOperand]

theorem not_safeRun_of_stopped {s : State} (h : s.fault ≠ .noFault) (k : Nat) : ¬ safeRun k s := by
  rintro ⟨t, hrun, hgood⟩
  cases k with
  | zero =>
    cases hrun
    exact h hgood
  | succ k =>
    rw [run_of_stopped h] at hrun
    cases hrun

theorem safeRun_succ_of_next {s t : State} (h : step s = .next t) (k : Nat) : safeRun (k + 1) s ↔ safeRun k t := by
  rw [safeRun, run_succ_of_next h, safeRun]

/-- The requests one after the other: a permitted command goes on with the rest, any other request stops the block. -/
theorem safeRun_iff_contractKept (requests : List Request) {s : State} (hf : s.fault = .noFault)
    (hp : s.pending = requests) :
    safeRun requests.length s ↔ contractKept s.params s.initDone requests = true := by
  induction requests generalizing s with
  | nil => exact ⟨fun _ => rfl, fun _ => ⟨s, rfl, hf⟩⟩
  | cons r rest ih =>
    obtain ⟨t, hstep⟩ := step_completes hf
    rw [List.length_cons, safeRun_succ_of_next hstep]
    obtain ⟨e, he, rfl⟩ | ⟨i, hi, hexec⟩ := step_request_cases hp hstep
    · rw [contractKept_illegal he]
      exact iff_of_false (not_safeRun_of_stopped (by simp) _) Bool.false_ne_true
    · rw [contractKept_cons hi, ← exec_fault_eq_noFault_iff hexec]
      by_cases ht : t.fault = .noFault
      · obtain ⟨hparams, hpending, -⟩ := exec_keeps_environment hexec
        rw [ih ht hpending, hparams, exec_initDone_eq hexec, and_iff_right ht]
        rfl
      · exact iff_of_false (not_safeRun_of_stopped ht _) fun hkept => ht hkept.1

/-- Settles O52: the whole list of pending requests, issued one by one. -/
theorem runIsSafeExactlyWhenTheContractIsKept : Obligations.RunIsSafeExactlyWhenTheContractIsKept := by
  unfold Obligations.RunIsSafeExactlyWhenTheContractIsKept
  exact fun s hf => safeRun_iff_contractKept s.pending hf rfl

/-! ### What no host can see (R35) -/

/-- Two states no host can tell apart: before INIT they may differ in CUR, DLV, FIRST and CFG; while FIRST is set, in DLV
alone. -/
inductive Indistinguishable : State → State → Prop where
  | beforeInit {s : State} (hd : s.initDone = false) (cur dlv : Snapshot) (first : Bool) (cfg : LineConfigs) :
      Indistinguishable s { s with cur := cur, dlv := dlv, first := first, cfg := cfg }
  | firstSet {s : State} (hfirst : s.first = true) (dlv : Snapshot) : Indistinguishable s (s.setDlv dlv)
  | same (s : State) : Indistinguishable s s

namespace Indistinguishable

variable {s s' : State}

theorem hostView_eq (h : Indistinguishable s s') : hostView s' = hostView s := by
  cases h <;> rfl

theorem fault_eq (h : Indistinguishable s s') : s'.fault = s.fault := by
  cases h <;> rfl

theorem pending_eq (h : Indistinguishable s s') : s'.pending = s.pending := by
  cases h <;> rfl

theorem present (h : Indistinguishable s s') (r : Request) (rest : List Request) :
    Indistinguishable (s.present r rest) (s'.present r rest) := by
  cases h with
  | beforeInit hd cur dlv first cfg => exact .beforeInit (s := s.present r rest) hd cur dlv first cfg
  | firstSet hfirst dlv => exact .firstSet (s := s.present r rest) hfirst dlv
  | same => exact .same _

theorem raise (h : Indistinguishable s s') (c : FaultCode) :
    Indistinguishable { s with fault := c, result := none } { s' with fault := c, result := none } := by
  cases h with
  | beforeInit hd cur dlv first cfg =>
    exact .beforeInit (s := { s with fault := c, result := none }) hd cur dlv first cfg
  | firstSet hfirst dlv => exact .firstSet (s := { s with fault := c, result := none }) hfirst dlv
  | same => exact .same _

/-- INIT overwrites CUR, FIRST and CFG, so that DLV alone may still differ, behind FIRST. -/
theorem exec_init (h : Indistinguishable s s') (hf : s.fault = .noFault) :
    ∃ t t', exec .init s = .next t ∧ exec .init s' = .next t' ∧ Indistinguishable t t' := by
  refine ⟨_, _, exec_init_of_running hf, exec_init_of_running (h.fault_eq.trans hf), ?_⟩
  cases h with
  | beforeInit hd cur dlv first cfg => exact .firstSet rfl dlv
  | firstSet hfirst dlv => exact .firstSet rfl dlv
  | same => exact .same _

/-- After INIT, with FIRST set, HASCHG does not look at DLV and BUILD overwrites it. -/
theorem exec_of_firstSet {i : Instr} (hi : i ≠ .init) (hf : s.fault = .noFault) (hd : s.initDone = true)
    (hfirst : s.first = true) (dlv : Snapshot) :
    ∃ t t', exec i s = .next t ∧ exec i (s.setDlv dlv) = .next t' ∧ Indistinguishable t t' := by
  cases i with
  | init => exact absurd rfl hi
  | update =>
    exact ⟨_, _, exec_update_of_ready hf hd, exec_update_of_ready (s := s.setDlv dlv) hf hd,
      .firstSet (s := (sampleIntoCur s).driveResult none) hfirst dlv⟩
  | haschg =>
    have hchanged : changed (s.setDlv dlv) = changed s := by simp [changed_eq, hfirst]
    refine ⟨_, _, exec_haschg_of_ready hf hd, exec_haschg_of_ready (s := s.setDlv dlv) hf hd, ?_⟩
    rw [hchanged]
    exact .firstSet (s := s.driveResult (some (changed s))) hfirst dlv
  | build p =>
    by_cases hok : p = true → bufferOk s = true
    · refine ⟨_, _, exec_build_of_ready hf hd hok, exec_build_of_ready (s := s.setDlv dlv) hf hd hok, ?_⟩
      have hsame : afterBuild p (s.setDlv dlv) = afterBuild p s := by cases p <;> rfl
      rw [hsame]
      exact .same _
    · obtain ⟨rfl, hbad⟩ := Classical.not_imp.1 hok
      have hbad : bufferOk s = false := Bool.eq_false_iff.2 hbad
      exact ⟨_, _, exec_build_of_badBuffer hf hd hbad, exec_build_of_badBuffer (s := s.setDlv dlv) hf hd hbad,
        (Indistinguishable.firstSet hfirst dlv).raise .badBuffer⟩

/-- Every command runs in lockstep on a running block. -/
theorem exec_lockstep (h : Indistinguishable s s') (hf : s.fault = .noFault) (i : Instr) :
    ∃ t t', exec i s = .next t ∧ exec i s' = .next t' ∧ Indistinguishable t t' := by
  by_cases hi : i = .init
  · subst hi
    exact h.exec_init hf
  by_cases hd : s.initDone = true
  · cases h with
    | beforeInit huninitialised => exact absurd (huninitialised.symm.trans hd) Bool.false_ne_true
    | firstSet hfirst dlv => exact exec_of_firstSet hi hf hd hfirst dlv
    | same =>
      obtain ⟨t, ht⟩ := exec_completes hf i
      exact ⟨t, t, ht, ht, .same t⟩
  · have hd : s.initDone = false := Bool.eq_false_iff.2 hd
    have hd' : s'.initDone = false := by cases h <;> exact hd
    exact ⟨_, _, exec_of_uninitialised hf hd hi, exec_of_uninitialised (h.fault_eq.trans hf) hd' hi, h.raise .notInit⟩

theorem step_lockstep (h : Indistinguishable s s') (hf : s.fault = .noFault) :
    ∃ t t', step s = .next t ∧ step s' = .next t' ∧ Indistinguishable t t' := by
  have hf' : s'.fault = .noFault := h.fault_eq.trans hf
  rcases hp : s.pending with _ | ⟨r, rest⟩
  · exact ⟨s, s', step_of_waiting hf hp, step_of_waiting hf' (h.pending_eq.trans hp), h⟩
  · have hp' : s'.pending = r :: rest := h.pending_eq.trans hp
    rcases hi : decode r.cmd with e | i
    · exact ⟨_, _, (step_of_illegal hp hi).trans (whileRunning_of_running hf _),
        (step_of_illegal hp' hi).trans (whileRunning_of_running hf' _), (h.present r rest).raise .reservedCmd⟩
    · rw [step_of_request hp hi, step_of_request hp' hi]
      exact (h.present r rest).exec_lockstep hf i

/-- The host sees the same of both runs, at every length. -/
theorem observe_run_eq (h : Indistinguishable s s') (k : Nat) :
    observe (Host.Core.run Sys2Proof.core k s') = observe (Host.Core.run Sys2Proof.core k s) := by
  induction k generalizing s s' with
  | zero => exact congrArg Host.Outcome.next h.hostView_eq
  | succ k ih =>
    by_cases hf : s.fault = .noFault
    · obtain ⟨t, t', hstep, hstep', ht⟩ := h.step_lockstep hf
      rw [run_succ_of_next hstep, run_succ_of_next hstep', ih ht]
    · have hf' : s'.fault ≠ .noFault := fun hf' => hf (h.fault_eq.symm.trans hf')
      rw [run_of_stopped hf, run_of_stopped hf', h.fault_eq]

end Indistinguishable

/-- Settles O51: before INIT the two states are indistinguishable, and stay so over every step. -/
theorem unspecifiedResetValuesAreNeverSeen : Obligations.UnspecifiedResetValuesAreNeverSeen := by
  unfold Obligations.UnspecifiedResetValuesAreNeverSeen
  exact fun s cur dlv first cfg k hd => (Indistinguishable.beforeInit hd cur dlv first cfg).observe_run_eq k

end Sys2Proof.WholeRuns
end
